-- ==== Sys2Proof/Word.lean ====
section
/-! DEFINITION. The byte, and finite sequences of bytes (00_scope R12, R13). -/

namespace Sys2Proof

/-- A byte is 8 bits; bit 0 is its least significant bit (00_scope R12). -/
abbrev Byte := BitVec 8

/-- A frame, a payload or a reply: a finite sequence of bytes, index 0 first on the wire
(00_scope R13, 20_memory R50). -/
abbrev Bytes := List Byte

end Sys2Proof
end

