-- ==== Sys2Proof/Syntax.lean ====
section
/-! DEFINITION. The sixteen registers of the device, and the telegram forms: one constructor of `Instr` per row of
the opcode table (30_encoding R83, R84, R91). -/

namespace Sys2Proof

/-- The sixteen registers, by the names of 20_memory R47 and 40_catalog_lookup R103. A register is an addressable
attribute of the remote device, never storage inside the block (10_state R20). -/
inductive Reg where
  /-- DeviceType, an identification string (40_catalog_lookup R104). -/
  | deviceType
  /-- SerialNumber, an identification string (40_catalog_lookup R105). -/
  | serialNumber
  /-- NominalVoltage, a nominal rating (40_catalog_lookup R106). -/
  | nominalVoltage
  /-- NominalCurrent, a nominal rating (40_catalog_lookup R107). -/
  | nominalCurrent
  /-- NominalPower, a nominal rating (40_catalog_lookup R108). -/
  | nominalPower
  /-- ArticleNumber, an identification string (40_catalog_lookup R109). -/
  | articleNumber
  /-- Manufacturer, an identification string (40_catalog_lookup R110). -/
  | manufacturer
  /-- SoftwareVersion, an identification string (40_catalog_lookup R111). -/
  | softwareVersion
  /-- DeviceClass, a 2-byte scalar (40_catalog_lookup R112). -/
  | deviceClass
  /-- OvpThreshold, a 2-byte scalar (40_catalog_lookup R113). -/
  | ovpThreshold
  /-- OcpThreshold, a 2-byte scalar (40_catalog_lookup R114). -/
  | ocpThreshold
  /-- SetValueVoltage, a 2-byte scalar (40_catalog_lookup R115). -/
  | setValueVoltage
  /-- SetValueCurrent, a 2-byte scalar (40_catalog_lookup R116). -/
  | setValueCurrent
  /-- PowerSupplyControl, a 2-byte scalar (40_catalog_lookup R117). -/
  | powerSupplyControl
  /-- StatusActualValues, a composite status register (40_catalog_lookup R118). -/
  | statusActualValues
  /-- StatusSetValues, a composite status register (40_catalog_lookup R119). -/
  | statusSetValues
  deriving DecidableEq, Repr

/-- All registers, in the order of 40_catalog_lookup R103. -/
def Reg.all : List Reg :=
  [.deviceType, .serialNumber, .nominalVoltage, .nominalCurrent, .nominalPower, .articleNumber, .manufacturer, .softwareVersion,
   .deviceClass, .ovpThreshold, .ocpThreshold, .setValueVoltage, .setValueCurrent, .powerSupplyControl, .statusActualValues, .statusSetValues]

/-- A telegram form with its operands. -/
inductive Instr where
  /-- QUERY.DeviceType (41_telegram_encoder R140): operand the sub-device selector byte. -/
  | queryDeviceType (sel : Byte)
  /-- QUERY.SerialNumber (41_telegram_encoder R141): operand the sub-device selector byte. -/
  | querySerialNumber (sel : Byte)
  /-- QUERY.NominalVoltage (41_telegram_encoder R142): operand the sub-device selector byte. -/
  | queryNominalVoltage (sel : Byte)
  /-- QUERY.NominalCurrent (41_telegram_encoder R143): operand the sub-device selector byte. -/
  | queryNominalCurrent (sel : Byte)
  /-- QUERY.NominalPower (41_telegram_encoder R144): operand the sub-device selector byte. -/
  | queryNominalPower (sel : Byte)
  /-- QUERY.ArticleNumber (41_telegram_encoder R145): operand the sub-device selector byte. -/
  | queryArticleNumber (sel : Byte)
  /-- QUERY.Manufacturer (41_telegram_encoder R146): operand the sub-device selector byte. -/
  | queryManufacturer (sel : Byte)
  /-- QUERY.SoftwareVersion (41_telegram_encoder R147): operand the sub-device selector byte. -/
  | querySoftwareVersion (sel : Byte)
  /-- QUERY.DeviceClass (41_telegram_encoder R148): operand the sub-device selector byte. -/
  | queryDeviceClass (sel : Byte)
  /-- QUERY.OvpThreshold (41_telegram_encoder R149): operand the sub-device selector byte. -/
  | queryOvpThreshold (sel : Byte)
  /-- QUERY.OcpThreshold (41_telegram_encoder R150): operand the sub-device selector byte. -/
  | queryOcpThreshold (sel : Byte)
  /-- QUERY.SetValueVoltage (41_telegram_encoder R151): operand the sub-device selector byte. -/
  | querySetValueVoltage (sel : Byte)
  /-- QUERY.SetValueCurrent (41_telegram_encoder R152): operand the sub-device selector byte. -/
  | querySetValueCurrent (sel : Byte)
  /-- QUERY.PowerSupplyControl (41_telegram_encoder R153): operand the sub-device selector byte. -/
  | queryPowerSupplyControl (sel : Byte)
  /-- QUERY.StatusActualValues (41_telegram_encoder R154): operand the sub-device selector byte. -/
  | queryStatusActualValues (sel : Byte)
  /-- QUERY.StatusSetValues (41_telegram_encoder R155): operand the sub-device selector byte. -/
  | queryStatusSetValues (sel : Byte)
  /-- SEND.OvpThreshold (41_telegram_encoder R156): operands the selector byte and the two payload bytes. -/
  | sendOvpThreshold (sel p0 p1 : Byte)
  /-- SEND.OcpThreshold (41_telegram_encoder R157): operands the selector byte and the two payload bytes. -/
  | sendOcpThreshold (sel p0 p1 : Byte)
  /-- SEND.SetValueVoltage (41_telegram_encoder R158): operands the selector byte and the two payload bytes. -/
  | sendSetValueVoltage (sel p0 p1 : Byte)
  /-- SEND.SetValueCurrent (41_telegram_encoder R159): operands the selector byte and the two payload bytes. -/
  | sendSetValueCurrent (sel p0 p1 : Byte)
  /-- SEND.PowerSupplyControl (41_telegram_encoder R160): operands the selector byte and the two payload bytes. -/
  | sendPowerSupplyControl (sel p0 p1 : Byte)
  /-- REPLY.DeviceType (42_telegram_decoder R190): operand the reply byte sequence. -/
  | replyDeviceType (reply : Bytes)
  /-- REPLY.SerialNumber (42_telegram_decoder R191): operand the reply byte sequence. -/
  | replySerialNumber (reply : Bytes)
  /-- REPLY.NominalVoltage (42_telegram_decoder R192): operand the reply byte sequence. -/
  | replyNominalVoltage (reply : Bytes)
  /-- REPLY.NominalCurrent (42_telegram_decoder R193): operand the reply byte sequence. -/
  | replyNominalCurrent (reply : Bytes)
  /-- REPLY.NominalPower (42_telegram_decoder R194): operand the reply byte sequence. -/
  | replyNominalPower (reply : Bytes)
  /-- REPLY.ArticleNumber (42_telegram_decoder R195): operand the reply byte sequence. -/
  | replyArticleNumber (reply : Bytes)
  /-- REPLY.Manufacturer (42_telegram_decoder R196): operand the reply byte sequence. -/
  | replyManufacturer (reply : Bytes)
  /-- REPLY.SoftwareVersion (42_telegram_decoder R197): operand the reply byte sequence. -/
  | replySoftwareVersion (reply : Bytes)
  /-- REPLY.DeviceClass (42_telegram_decoder R198): operand the reply byte sequence. -/
  | replyDeviceClass (reply : Bytes)
  /-- REPLY.OvpThreshold (42_telegram_decoder R199): operand the reply byte sequence. -/
  | replyOvpThreshold (reply : Bytes)
  /-- REPLY.OcpThreshold (42_telegram_decoder R200): operand the reply byte sequence. -/
  | replyOcpThreshold (reply : Bytes)
  /-- REPLY.SetValueVoltage (42_telegram_decoder R201): operand the reply byte sequence. -/
  | replySetValueVoltage (reply : Bytes)
  /-- REPLY.SetValueCurrent (42_telegram_decoder R202): operand the reply byte sequence. -/
  | replySetValueCurrent (reply : Bytes)
  /-- REPLY.PowerSupplyControl (42_telegram_decoder R203): operand the reply byte sequence. -/
  | replyPowerSupplyControl (reply : Bytes)
  /-- REPLY.StatusActualValues (42_telegram_decoder R204): operand the reply byte sequence. -/
  | replyStatusActualValues (reply : Bytes)
  /-- REPLY.StatusSetValues (42_telegram_decoder R205): operand the reply byte sequence. -/
  | replyStatusSetValues (reply : Bytes)
  deriving DecidableEq, Repr

/-- The three formats of 30_encoding R71 to R73 with the register as data: the common shape of the 37 rows. -/
inductive Form where
  /-- Format Q (30_encoding R71). -/
  | query (r : Reg) (sel : Byte)
  /-- Format S with the two payload bytes of every writable register (30_encoding R72). -/
  | send (r : Reg) (sel p0 p1 : Byte)
  /-- Format R (30_encoding R73). -/
  | reply (r : Reg) (reply : Bytes)
  deriving DecidableEq, Repr

/-- The format and the register of a row. -/
def Instr.form : Instr → Form
  | .queryDeviceType sel => .query .deviceType sel
  | .querySerialNumber sel => .query .serialNumber sel
  | .queryNominalVoltage sel => .query .nominalVoltage sel
  | .queryNominalCurrent sel => .query .nominalCurrent sel
  | .queryNominalPower sel => .query .nominalPower sel
  | .queryArticleNumber sel => .query .articleNumber sel
  | .queryManufacturer sel => .query .manufacturer sel
  | .querySoftwareVersion sel => .query .softwareVersion sel
  | .queryDeviceClass sel => .query .deviceClass sel
  | .queryOvpThreshold sel => .query .ovpThreshold sel
  | .queryOcpThreshold sel => .query .ocpThreshold sel
  | .querySetValueVoltage sel => .query .setValueVoltage sel
  | .querySetValueCurrent sel => .query .setValueCurrent sel
  | .queryPowerSupplyControl sel => .query .powerSupplyControl sel
  | .queryStatusActualValues sel => .query .statusActualValues sel
  | .queryStatusSetValues sel => .query .statusSetValues sel
  | .sendOvpThreshold sel p0 p1 => .send .ovpThreshold sel p0 p1
  | .sendOcpThreshold sel p0 p1 => .send .ocpThreshold sel p0 p1
  | .sendSetValueVoltage sel p0 p1 => .send .setValueVoltage sel p0 p1
  | .sendSetValueCurrent sel p0 p1 => .send .setValueCurrent sel p0 p1
  | .sendPowerSupplyControl sel p0 p1 => .send .powerSupplyControl sel p0 p1
  | .replyDeviceType reply => .reply .deviceType reply
  | .replySerialNumber reply => .reply .serialNumber reply
  | .replyNominalVoltage reply => .reply .nominalVoltage reply
  | .replyNominalCurrent reply => .reply .nominalCurrent reply
  | .replyNominalPower reply => .reply .nominalPower reply
  | .replyArticleNumber reply => .reply .articleNumber reply
  | .replyManufacturer reply => .reply .manufacturer reply
  | .replySoftwareVersion reply => .reply .softwareVersion reply
  | .replyDeviceClass reply => .reply .deviceClass reply
  | .replyOvpThreshold reply => .reply .ovpThreshold reply
  | .replyOcpThreshold reply => .reply .ocpThreshold reply
  | .replySetValueVoltage reply => .reply .setValueVoltage reply
  | .replySetValueCurrent reply => .reply .setValueCurrent reply
  | .replyPowerSupplyControl reply => .reply .powerSupplyControl reply
  | .replyStatusActualValues reply => .reply .statusActualValues reply
  | .replyStatusSetValues reply => .reply .statusSetValues reply

/-- The row QUERY.r: one exists for each of the sixteen registers (30_encoding R83). -/
def Instr.query (r : Reg) (sel : Byte) : Instr :=
  match r with
  | .deviceType => .queryDeviceType sel
  | .serialNumber => .querySerialNumber sel
  | .nominalVoltage => .queryNominalVoltage sel
  | .nominalCurrent => .queryNominalCurrent sel
  | .nominalPower => .queryNominalPower sel
  | .articleNumber => .queryArticleNumber sel
  | .manufacturer => .queryManufacturer sel
  | .softwareVersion => .querySoftwareVersion sel
  | .deviceClass => .queryDeviceClass sel
  | .ovpThreshold => .queryOvpThreshold sel
  | .ocpThreshold => .queryOcpThreshold sel
  | .setValueVoltage => .querySetValueVoltage sel
  | .setValueCurrent => .querySetValueCurrent sel
  | .powerSupplyControl => .queryPowerSupplyControl sel
  | .statusActualValues => .queryStatusActualValues sel
  | .statusSetValues => .queryStatusSetValues sel

/-- The row SEND.r: one exists for each of the five writable registers and none for the eleven read-only ones
(30_encoding R83, R86). -/
def Instr.send? (r : Reg) (sel p0 p1 : Byte) : Option Instr :=
  match r with
  | .deviceType => none
  | .serialNumber => none
  | .nominalVoltage => none
  | .nominalCurrent => none
  | .nominalPower => none
  | .articleNumber => none
  | .manufacturer => none
  | .softwareVersion => none
  | .deviceClass => none
  | .ovpThreshold => some (.sendOvpThreshold sel p0 p1)
  | .ocpThreshold => some (.sendOcpThreshold sel p0 p1)
  | .setValueVoltage => some (.sendSetValueVoltage sel p0 p1)
  | .setValueCurrent => some (.sendSetValueCurrent sel p0 p1)
  | .powerSupplyControl => some (.sendPowerSupplyControl sel p0 p1)
  | .statusActualValues => none
  | .statusSetValues => none

/-- The row REPLY.r: one exists for each of the sixteen registers (30_encoding R84). -/
def Instr.reply (r : Reg) (reply : Bytes) : Instr :=
  match r with
  | .deviceType => .replyDeviceType reply
  | .serialNumber => .replySerialNumber reply
  | .nominalVoltage => .replyNominalVoltage reply
  | .nominalCurrent => .replyNominalCurrent reply
  | .nominalPower => .replyNominalPower reply
  | .articleNumber => .replyArticleNumber reply
  | .manufacturer => .replyManufacturer reply
  | .softwareVersion => .replySoftwareVersion reply
  | .deviceClass => .replyDeviceClass reply
  | .ovpThreshold => .replyOvpThreshold reply
  | .ocpThreshold => .replyOcpThreshold reply
  | .setValueVoltage => .replySetValueVoltage reply
  | .setValueCurrent => .replySetValueCurrent reply
  | .powerSupplyControl => .replyPowerSupplyControl reply
  | .statusActualValues => .replyStatusActualValues reply
  | .statusSetValues => .replyStatusSetValues reply

/-- The five registers that have a SEND row (30_encoding R83). -/
def Reg.hasSend (r : Reg) : Bool :=
  match r with
  | .deviceType => false
  | .serialNumber => false
  | .nominalVoltage => false
  | .nominalCurrent => false
  | .nominalPower => false
  | .articleNumber => false
  | .manufacturer => false
  | .softwareVersion => false
  | .deviceClass => false
  | .ovpThreshold => true
  | .ocpThreshold => true
  | .setValueVoltage => true
  | .setValueCurrent => true
  | .powerSupplyControl => true
  | .statusActualValues => false
  | .statusSetValues => false

end Sys2Proof
end

