-- ==== Sys2Proof/Config.lean ====
section
/-! DEFINITION. What an implementation fixes: the parameters of 00_scope R11, as plain data, the free values of the
software's floating-point arithmetic, and the names of the errors (60_exceptions R240). The values a parameter takes by
default stand in Machine/Catalog.lean. -/

namespace Sys2Proof

/-- One value for each of the sixteen registers. -/
structure RegMap (α : Type) where
  deviceType : α
  serialNumber : α
  nominalVoltage : α
  nominalCurrent : α
  nominalPower : α
  articleNumber : α
  manufacturer : α
  softwareVersion : α
  deviceClass : α
  ovpThreshold : α
  ocpThreshold : α
  setValueVoltage : α
  setValueCurrent : α
  powerSupplyControl : α
  statusActualValues : α
  statusSetValues : α
  deriving DecidableEq, Repr

/-- The value a map gives a register. -/
def RegMap.get {α : Type} (m : RegMap α) (r : Reg) : α :=
  match r with
  | .deviceType => m.deviceType
  | .serialNumber => m.serialNumber
  | .nominalVoltage => m.nominalVoltage
  | .nominalCurrent => m.nominalCurrent
  | .nominalPower => m.nominalPower
  | .articleNumber => m.articleNumber
  | .manufacturer => m.manufacturer
  | .softwareVersion => m.softwareVersion
  | .deviceClass => m.deviceClass
  | .ovpThreshold => m.ovpThreshold
  | .ocpThreshold => m.ocpThreshold
  | .setValueVoltage => m.setValueVoltage
  | .setValueCurrent => m.setValueCurrent
  | .powerSupplyControl => m.powerSupplyControl
  | .statusActualValues => m.statusActualValues
  | .statusSetValues => m.statusSetValues

/-- A Catalog entry: exactly three fields (10_state R25). -/
structure Entry where
  /-- "bytes of data carried in a write frame". -/
  allocatedPayloadSize : Nat
  /-- "total bytes of a reply frame, header+payload+checksum". -/
  replyFrameSize : Nat
  /-- Whether a write form is allowed (20_memory R57). -/
  writable : Bool
  deriving DecidableEq, Repr

/-- How the value helpers compute with non-integers (00_scope R11, 43_value_helpers R225). -/
inductive Numerics where
  /-- Exact rational arithmetic, which the spec's rules use: the default (92_eei_decisions D14). -/
  | exact
  /-- The software's floating-point arithmetic. Its type and the order of its operations are in no source
  (93 U11): what it gives is a free value (log entry 16). -/
  | softwareFloat
  deriving DecidableEq, Repr

/-- The free value of PCT16_ENC under `Numerics.softwareFloat`: the rounding error of the software's quotient, used
within a bound (43_value_helpers R225, log entry 16). -/
opaque Config.floatQuotientError (physical nominal : Rat) : Rat

/-- The free value of PCT16_DEC under `Numerics.softwareFloat`: any number (43_value_helpers R225, log entry 16). -/
opaque Config.floatPhysical (raw : Nat) (nominal : Rat) : Rat

/-- The parameters of 00_scope R11, and the Catalog ROM (10_state R24). Plain data, so that a
theorem can quantify over them (92_eei_decisions D3). -/
structure Params where
  /-- `regCode`, the byte that names each register (20_memory R47). -/
  regCode : RegMap Byte
  /-- The contents of the Catalog (10_state R27). The parameter `REPLY_SIZE_SCALAR16` is the reply size of its
  six scalar entries. -/
  catalog : RegMap Entry
  /-- `subDeviceCodes`, the legal selector bytes; ENC does not check membership (20_memory R48). -/
  subDeviceCodes : Bytes
  /-- `STRICT_REPLY_CHECKSUM` (42_telegram_decoder R185). -/
  strictReplyChecksum : Bool
  /-- `PAYLOAD_IN_MAX`, the longest payload that can be presented; none for the unbounded abstract model
  (92_eei_decisions D2). -/
  payloadInMax : Option Nat
  /-- `REPLY_IN_MAX`, the longest reply that can be presented; none for the unbounded abstract model
  (92_eei_decisions D2). -/
  replyInMax : Option Nat
  /-- `numerics` (92_eei_decisions D14). -/
  numerics : Numerics
  deriving DecidableEq, Repr

/-- The named errors of 60_exceptions R240. An error carries nothing beside its name (93 U16). -/
inductive CoreError where
  /-- LOOKUP, ENCODE, DECODE: the register code is not in the table (R241). -/
  | unknownRegister
  /-- ENCODE: a wrong-sized non-empty payload for a writable register (R242). -/
  | payloadLengthMismatch
  /-- DECODE: the reply does not have `replyFrameSize` bytes (R243). -/
  | replyLengthMismatch
  /-- The transport collaborator, never a unit (R245). -/
  | transport
  /-- DECODE in strict mode only (R246). -/
  | replyChecksumMismatch
  deriving DecidableEq, Repr

end Sys2Proof
end

