-- ==== Sys2Proof/Machine/Catalog.lean ====
section
/-! DEFINITION. register_catalog_lookup (CAT): the constants of 00_scope R10, the contents of the Catalog
(40_catalog_lookup R103), LOOKUP (R100) and which Catalogs a model admits (10_state R28). -/

namespace Sys2Proof

/-- Bytes before the payload (00_scope R10). -/
def headerLen : Nat := 3

/-- Bytes after the payload (00_scope R10). -/
def checksumLen : Nat := 2

/-- `OVERHEAD`, the length of a query frame (00_scope R10). -/
def overhead : Nat := headerLen + checksumLen

/-- `MT_SEND` (00_scope R10). -/
def mtSend : Nat := 0xC0

/-- `MT_QUERY` (00_scope R10). -/
def mtQuery : Nat := 0x40

/-- `CAST_BROADCAST` (00_scope R10). -/
def castBroadcast : Nat := 0x20

/-- `DIR_OUT` (00_scope R10). -/
def dirOut : Nat := 0x10

/-- `CHECKSUM_MOD` (00_scope R10). -/
def checksumMod : Nat := 65536

/-- `PCT_SCALE`, the raw value of 100 percent of nominal (00_scope R10). -/
def pctScale : Nat := 25600

/-- `Output1`, the only selector the source names (20_memory R46, R48). -/
def output1 : Byte := 0x00

/-- The default register codes of 20_memory R47.
PRESUMED (log entry 1): all but NominalVoltage = 0x02 are the spec's own general knowledge. -/
def defaultRegCode : RegMap Byte where
  deviceType := 0x00
  serialNumber := 0x01
  nominalVoltage := 0x02
  nominalCurrent := 0x03
  nominalPower := 0x04
  articleNumber := 0x06
  manufacturer := 0x08
  softwareVersion := 0x09
  deviceClass := 0x13
  ovpThreshold := 0x26
  ocpThreshold := 0x27
  setValueVoltage := 0x32
  setValueCurrent := 0x33
  powerSupplyControl := 0x36
  statusActualValues := 0x47
  statusSetValues := 0x48

/-- The sixteen entries of 40_catalog_lookup R103 (rules R104 to R119), the six scalar registers with the reply size
`REPLY_SIZE_SCALAR16` (90_conflicts C1). -/
def catalogWith (replySizeScalar16 : Nat) : RegMap Entry where
  deviceType := ⟨16, 17, false⟩
  serialNumber := ⟨16, 16, false⟩
  nominalVoltage := ⟨4, 9, false⟩
  nominalCurrent := ⟨4, 9, false⟩
  nominalPower := ⟨4, 9, false⟩
  articleNumber := ⟨16, 14, false⟩
  manufacturer := ⟨16, 8, false⟩
  softwareVersion := ⟨16, 21, false⟩
  deviceClass := ⟨2, replySizeScalar16, false⟩
  ovpThreshold := ⟨2, replySizeScalar16, true⟩
  ocpThreshold := ⟨2, replySizeScalar16, true⟩
  setValueVoltage := ⟨2, replySizeScalar16, true⟩
  setValueCurrent := ⟨2, replySizeScalar16, true⟩
  powerSupplyControl := ⟨2, replySizeScalar16, true⟩
  statusActualValues := ⟨11, 11, false⟩
  statusSetValues := ⟨11, 11, false⟩

/-- The parameters at their defaults: `REPLY_SIZE_SCALAR16 = 7`, `Output1`, no strict mode, unbounded inputs, exact
rationals (00_scope R11). -/
def Params.standard : Params where
  regCode := defaultRegCode
  catalog := catalogWith 7
  subDeviceCodes := [output1]
  strictReplyChecksum := false
  payloadInMax := none
  replyInMax := none
  numerics := .exact

/-- The register a code names, if it is listed (40_catalog_lookup R100). -/
def Params.regOf? (k : Params) (c : Byte) : Option Reg :=
  Reg.all.find? (fun r => k.regCode.get r == c)

/-- The entry of a register (40_catalog_lookup R100). -/
def Params.entry (k : Params) (r : Reg) : Entry :=
  k.catalog.get r

/-- LOOKUP (40_catalog_lookup R100): the entry of the register a code names; an unlisted code is an error, and there
is no default entry (10_state R26). -/
def lookup (k : Params) (c : Byte) : Except CoreError Entry :=
  match k.regOf? c with
  | some r => .ok (k.entry r)
  | none => .error .unknownRegister

/-- The projection `allocatedPayloadSize(c)`; it fails exactly when LOOKUP fails (40_catalog_lookup R101). -/
def allocatedPayloadSize (k : Params) (c : Byte) : Except CoreError Nat :=
  (lookup k c).map Entry.allocatedPayloadSize

/-- The projection `replyFrameSize(c)` (40_catalog_lookup R101). -/
def replyFrameSize (k : Params) (c : Byte) : Except CoreError Nat :=
  (lookup k c).map Entry.replyFrameSize

/-- The projection `writable(c)` (40_catalog_lookup R101). -/
def writable (k : Params) (c : Byte) : Except CoreError Bool :=
  (lookup k c).map Entry.writable

/-- The six 2-byte scalars of 20_memory R45. -/
def Reg.isScalar16 (r : Reg) : Bool :=
  match r with
  | .deviceType => false
  | .serialNumber => false
  | .nominalVoltage => false
  | .nominalCurrent => false
  | .nominalPower => false
  | .articleNumber => false
  | .manufacturer => false
  | .softwareVersion => false
  | .deviceClass => true
  | .ovpThreshold => true
  | .ocpThreshold => true
  | .setValueVoltage => true
  | .setValueCurrent => true
  | .powerSupplyControl => true
  | .statusActualValues => false
  | .statusSetValues => false

/-- The deliberate instantiation `REPLY_SIZE_SCALAR16 = 2`: one parameter, so all six scalars have the reply size 2
(92_eei_decisions D5). -/
def Params.literalTwo (k : Params) : Bool :=
  Reg.all.all (fun r => !r.isScalar16 || (k.entry r).replyFrameSize == 2)

/-- Well-formedness of one entry (10_state R28): `1 <= allocatedPayloadSize <= 16` and `replyFrameSize >= 5`; a scalar
is excepted under the deliberate instantiation of the literal 2, and only then (92_eei_decisions D5, D12). -/
def Params.entryAdmitted (k : Params) (r : Reg) : Bool :=
  decide (1 ≤ (k.entry r).allocatedPayloadSize) && decide ((k.entry r).allocatedPayloadSize ≤ 16)
    && (decide (overhead ≤ (k.entry r).replyFrameSize) || (k.literalTwo && r.isScalar16))

/-- A length within an input bound; `none` bounds nothing (92_eei_decisions D2). -/
def withinBound (bound : Option Nat) (n : Nat) : Bool :=
  match bound with
  | none => true
  | some most => decide (n ≤ most)

/-- `PAYLOAD_IN_MAX >= 16` and `REPLY_IN_MAX >= 21` (92_eei_decisions D2). DEDUCED (log entry 11): a reply that the
Catalog calls for can be presented, since D2 says that a bound loses only inputs that fail. -/
def Params.boundsAdmitted (k : Params) : Bool :=
  withinBound k.payloadInMax 16 && withinBound k.replyInMax 21
    && Reg.all.all (fun r => withinBound k.replyInMax (k.entry r).replyFrameSize)

/-- No value stands twice in a list. -/
def noRepeats : Bytes → Bool
  | [] => true
  | b :: bs => !bs.contains b && noRepeats bs

/-- The Catalogs and parameters a model admits: every entry well formed (10_state R28), `regCode` injective with
`regCode(NominalVoltage) = 0x02` (20_memory R47), `Output1` a legal selector (92_eei_decisions D4), the input bounds
wide enough (92_eei_decisions D2). -/
def Params.admitted (k : Params) : Bool :=
  Reg.all.all k.entryAdmitted
    && noRepeats (Reg.all.map k.regCode.get)
    && k.regCode.nominalVoltage == 0x02
    && k.subDeviceCodes.contains output1
    && k.boundsAdmitted

end Sys2Proof
end

