-- ==== Sys2Proof/WellFormed.lean ====
section
/-! DEFINITION. Which terms of `Instr` are telegrams of the fixed table (30_encoding R83, R84). The operands of a QUERY
or SEND form may be any bytes (41_telegram_encoder R136), so only a reply's length is checked. -/

namespace Sys2Proof

/-- The total length in bytes of a form (30_encoding R83, R84). -/
def Instr.wireLength (i : Instr) : Nat :=
  match i.form with
  | .query _ _ => 5
  | .send _ _ _ _ => 7
  | .reply r _ => (Params.standard.entry r).replyFrameSize

/-- A reply form carries exactly `replyFrameSize` bytes (30_encoding R73, R84). -/
def Instr.wellFormed (i : Instr) : Bool :=
  match i.form with
  | .query _ _ => true
  | .send _ _ _ _ => true
  | .reply _ reply => reply.length == i.wireLength

end Sys2Proof
end

