-- ==== Sys2Proof/Decode.lean ====
section
/-! DEFINITION. The bits of a telegram: byte order and checksum (30_encoding R81), the fields of the start delimiter
(R75), the decoder of requests (R91), the selection of a reply form (R84), and the encoder (R71 to R73, R83). -/

namespace Sys2Proof

/-- The most significant byte of a 16-bit value first (00_scope R14). -/
def be16 (v : BitVec 16) : Bytes :=
  [v.extractLsb' 8 8, v.extractLsb' 0 8]

/-- The number a big-endian byte sequence stands for; `256*h + l` for two bytes (00_scope R14). -/
def unbe16 (bs : Bytes) : Nat :=
  bs.foldl (fun acc b => 256 * acc + b.toNat) 0

/-- `sum(s)`, each byte an unsigned number 0..255 (00_scope R13, 41_telegram_encoder R137). -/
def byteSum (bs : Bytes) : Nat :=
  (bs.map BitVec.toNat).sum

/-- The checksum of a byte sequence, the sum modulo 65536 (30_encoding R81). -/
def checksum (bs : Bytes) : BitVec 16 :=
  BitVec.ofNat 16 (byteSum bs)

/-- Bits 7..6 of the start delimiter (30_encoding R75). -/
def messageType (d : Byte) : BitVec 2 := d.extractLsb' 6 2

/-- Bit 5 of the start delimiter (30_encoding R75). -/
def castType (d : Byte) : BitVec 1 := d.extractLsb' 5 1

/-- Bit 4 of the start delimiter (30_encoding R75). -/
def direction (d : Byte) : BitVec 1 := d.extractLsb' 4 1

/-- Bits 3..0 of the start delimiter (30_encoding R75). -/
def lengthField (d : Byte) : BitVec 4 := d.extractLsb' 0 4

/-- Message type Query (30_encoding R75). -/
def queryType : BitVec 2 := 0b01

/-- Message type Send (30_encoding R75). -/
def sendType : BitVec 2 := 0b11

/-- The start delimiter laid out by its fields, cast type broadcast and direction out (30_encoding R75, R76). -/
def delimiterBits (mt : BitVec 2) (len : BitVec 4) : Byte :=
  mt ++ 1#1 ++ 1#1 ++ len

/-- The total length of a request, recovered from byte 0 (30_encoding R74). -/
def requestLength? (d : Byte) : Option Nat :=
  if messageType d = sendType then some (5 + (lengthField d).toNat + 1)
  else if messageType d = queryType then some 5
  else none

/-- Why a byte sequence is no request telegram of the table. -/
inductive DecodeError where
  /-- Fewer bytes than the form has (30_encoding R71, R72). -/
  | truncated
  /-- Message type 0b00 or 0b10 (30_encoding R87). -/
  | messageType
  /-- Cast type 0, never sent by this driver (30_encoding R87). -/
  | castType
  /-- Direction 0, never sent by this driver (30_encoding R87). -/
  | direction
  /-- The register code is not listed (30_encoding R85). -/
  | unlistedRegister
  /-- The length field is not the register's size class minus 1 (30_encoding R77, R78). -/
  | lengthField
  /-- A Send for a register that has no SEND form (30_encoding R86). -/
  | noSendForm
  deriving DecidableEq, Repr

/-- The length field of a register (30_encoding R75, R77). -/
def sizeField (k : Params) (r : Reg) : BitVec 4 :=
  BitVec.ofNat 4 ((k.entry r).allocatedPayloadSize - 1)

/-- What follows the header of a SEND form: two payload bytes and two checksum bytes, which are not matched
(30_encoding R72, R91). A register whose size class is not 2 has no SEND row in the table. -/
def decodeSend (k : Params) (r : Reg) (sel : Byte) (rest : Bytes) : Except DecodeError (Instr × Bytes) :=
  if (k.entry r).writable = false ∨ (k.entry r).allocatedPayloadSize ≠ 2 then .error .noSendForm
  else
    match rest with
    | p0 :: p1 :: _ :: _ :: rest' =>
      match Instr.send? r sel p0 p1 with
      | some i => .ok (i, rest')
      | none => .error .noSendForm
    | _ => .error .truncated

/-- What follows the header of a QUERY form: two checksum bytes, which are not matched (30_encoding R71, R91). -/
def decodeQuery (r : Reg) (sel : Byte) (rest : Bytes) : Except DecodeError (Instr × Bytes) :=
  match rest with
  | _ :: _ :: rest' => .ok (Instr.query r sel, rest')
  | _ => .error .truncated

/-- The decoder of requests: bytes 0 and 2 are matched and byte 1 is the selector (30_encoding R91). It answers the
form and the bytes after it, or why there is none. -/
def decode (k : Params) (bs : Bytes) : Except DecodeError (Instr × Bytes) :=
  match bs with
  | d :: sel :: c :: rest =>
    if castType d ≠ 1 then .error .castType
    else if direction d ≠ 1 then .error .direction
    else if messageType d ≠ queryType ∧ messageType d ≠ sendType then .error .messageType
    else
      match k.regOf? c with
      | none => .error .unlistedRegister
      | some r =>
        if lengthField d ≠ sizeField k r then .error .lengthField
        else if messageType d = sendType then decodeSend k r sel rest
        else decodeQuery r sel rest
  | _ => .error .truncated

/-- The reply form of the register the caller names; no bit of the reply is matched (30_encoding R84, R91). -/
def decodeReplyForm (k : Params) (c : Byte) (reply : Bytes) : Option Instr :=
  (k.regOf? c).map (fun r => Instr.reply r reply)

/-- A byte sequence followed by its checksum, most significant byte first (30_encoding R81). -/
def withChecksum (head : Bytes) : Bytes :=
  head ++ be16 (checksum head)

/-- The wire bytes of a form, laid out field by field (30_encoding R71 to R73). -/
def encodeForm (k : Params) (f : Form) : Bytes :=
  match f with
  | .query r sel => withChecksum [delimiterBits queryType (sizeField k r), sel, k.regCode.get r]
  | .send r sel p0 p1 => withChecksum [delimiterBits sendType (sizeField k r), sel, k.regCode.get r, p0, p1]
  | .reply _ reply => reply

/-- The encoder: the wire bytes of an instruction (30_encoding R83, R84). -/
def encode (k : Params) (i : Instr) : Bytes :=
  encodeForm k i.form

/-- The `n` low bytes of a number, the most significant first: the opcode table numbers the header of a telegram as
one word whose most significant byte is frame byte 0. -/
def bytesOfWord : Nat → Nat → Bytes
  | 0, _ => []
  | n + 1, w => BitVec.ofNat 8 (w / 256 ^ n) :: bytesOfWord n w

/-- The longest request of the table, in bytes (30_encoding R83). -/
def longestRequest : Nat := 7

/-- The bytes of an instruction of which the opcode table gives `nbits` bits; every later byte is 0. -/
def wordBytes (nbits w : Nat) : Bytes :=
  bytesOfWord (nbits / 8) w ++ List.replicate (longestRequest - nbits / 8) 0

/-- The instruction the decoder reads from a word of the opcode table. The REPLY rows match no bit, so no word alone
selects one (30_encoding R91, log entry 7). -/
def decodeTableWord (nbits w : Nat) : Option Instr :=
  match decode Params.standard (wordBytes nbits w) with
  | .ok (i, _) => some i
  | .error _ => none

end Sys2Proof
end

