-- ==== Sys2Proof/Machine/State.lean ====
section
/-! DEFINITION. The state of the machine as plain data, what a step reports, how a run stops, and reset.

The block itself holds one constant table and nothing else (10_state R35). The other fields are the environment that
10_state R34 names, the inputs the outside world has yet to give, and the outputs of the last operation. -/

namespace Sys2Proof.Machine

/-- The outputs of one operation (60_exceptions R240): success with its outputs, or one named error. -/
inductive Result where
  /-- LOOKUP succeeded (40_catalog_lookup R100). -/
  | entry (e : Entry)
  /-- ENCODE succeeded (41_telegram_encoder R130). -/
  | request (frame : Bytes) (expectedReplyLength : Nat)
  /-- DECODE succeeded (42_telegram_decoder R180), or U16_BE built a payload (43_value_helpers R221). -/
  | payload (bytes : Bytes)
  /-- PCT16_ENC (43_value_helpers R220). -/
  | rawValue (v : BitVec 16)
  /-- PCT16_DEC (43_value_helpers R222). -/
  | physicalValue (q : Rat)
  /-- F32_BE (43_value_helpers R226). -/
  | float32 (bits : BitVec 32)
  /-- `write` returned (70_reset_and_hazards R275). -/
  | sent
  /-- `readExactly` returned these bytes (70_reset_and_hazards R275). -/
  | received (bytes : Bytes)
  /-- `discardPendingInput` returned (70_reset_and_hazards R275). -/
  | drained
  /-- The operation ended with an error and produced nothing else (60_exceptions R244). -/
  | error (e : CoreError)
  deriving DecidableEq, Repr

/-- What the caller asks for next: the operations of 30_encoding R90, the exchanges of 20_memory R64 and R65, the
helpers of 43_value_helpers; and two events that are not the caller's, an arrival on the link and a reset. -/
inductive Call where
  /-- LOOKUP (40_catalog_lookup R100). -/
  | lookup (c : Byte)
  /-- ENCODE (41_telegram_encoder R130). -/
  | encode (c sel : Byte) (payload : Option Bytes)
  /-- DECODE (42_telegram_decoder R180). -/
  | decode (c : Byte) (reply : Bytes)
  /-- A request form named by its wire bytes, read by the request decoder of 30_encoding R91.
  DESIGN CHOICE (log entry 8): the model's own way to present a row of the opcode table. -/
  | wireForm (bytes : Bytes)
  /-- `write(bytes)` (70_reset_and_hazards R275). -/
  | write (bytes : Bytes)
  /-- `readExactly(n)` (70_reset_and_hazards R275). -/
  | read (n : Nat)
  /-- `discardPendingInput()` (70_reset_and_hazards R275). -/
  | drain
  /-- `MemRead((s, c), n)`, a complete query exchange (20_memory R64). -/
  | memRead (sel c : Byte)
  /-- `MemWrite((s, c), n, v)`, a complete write-mode exchange (20_memory R65). `drainAnyway`: the caller's own choice
  where the request was silently a query. -/
  | memWrite (sel c : Byte) (v : Bytes) (drainAnyway : Bool)
  /-- PCT16_ENC (43_value_helpers R220). -/
  | pct16Encode (physical nominal : Rat)
  /-- U16_BE (43_value_helpers R221). -/
  | u16Bytes (raw : BitVec 16)
  /-- PCT16_DEC (43_value_helpers R222). -/
  | pct16Decode (h l : Byte) (nominal : Rat)
  /-- F32_BE (43_value_helpers R226). -/
  | float32 (b3 b2 b1 b0 : Byte)
  /-- Time passes: the receive side takes in the next arrival (10_state R34 (b)). -/
  | receive
  /-- A reset or power loss (70_reset_and_hazards R270, R271). -/
  | reset
  deriving DecidableEq, Repr

/-- What the receive side of the link will see: the oracle of 70_reset_and_hazards R275, unconstrained. -/
inductive WireEvent where
  /-- Bytes arrive from the device. -/
  | arrive (bytes : Bytes)
  /-- What follows has not arrived yet when a drain runs; a read waits for it. "nothing says how long the caller must
  wait before draining" (70_reset_and_hazards R278): the oracle decides (log entry 18). -/
  | pause
  /-- The read that waits at this point fails (short read, timeout, link fault) and loses this many of the bytes that
  had arrived, the oldest (60_exceptions R245; how many and which is in no source, log entry 14). -/
  | readFault (lost : Nat)
  deriving DecidableEq, Repr

/-- What the device sends after one write: anything at all (93 U1, U4, U5, U12). -/
structure Answer where
  /-- Its reply to the request. -/
  reply : List WireEvent
  /-- What it sends besides: after a Send the acknowledgement frame (70_reset_and_hazards R278), stray bytes otherwise.
  -/
  ack : List WireEvent
  deriving DecidableEq, Repr

/-- A request frame on the link, as the caller knows it from ENCODE. -/
structure Request where
  /-- The register code. -/
  code : Byte
  /-- `expectedReplyLength` (41_telegram_encoder R138). -/
  expected : Nat
  /-- Message type Send: a write-mode exchange (70_reset_and_hazards R278). -/
  isSend : Bool
  deriving DecidableEq, Repr

/-- How far the caller has come with its exchange (70_reset_and_hazards R276 to R278, R284, R285). -/
inductive Exchange where
  /-- No exchange under way. -/
  | none
  /-- A request is written and its reply unread. `sent`: the number of bytes the device sends in reply, which the
  caller does not know (10_state R34 (a)). -/
  | written (request : Request) (sent : Nat)
  /-- The reply is read; DECODE is to be given these bytes. -/
  | received (request : Request) (reply : Bytes)
  /-- DECODE has returned, or a step has failed, and the request was a Send: the drain is due (R285). -/
  | drainDue
  deriving DecidableEq, Repr

/-- The link's synchronisation (10_state R34 (a)). -/
inductive Link where
  /-- No byte has been read that was not the reply asked for, and none of that reply was left. -/
  | synchronised
  /-- "the link is desynchronized for all future calls" (70_reset_and_hazards R277). -/
  | desynchronised
  deriving DecidableEq, Repr

/-- The state of the machine. -/
structure State where
  /-- The Catalog ROM and the parameters (10_state R24, 00_scope R11). No step writes them. -/
  params : Params
  /-- The outputs of the last operation; none before the first (10_state R29, R35). -/
  result : Option Result
  /-- The link's synchronisation (10_state R34 (a)). -/
  link : Link
  /-- The caller's progress through its exchange (70_reset_and_hazards R284). -/
  exchange : Exchange
  /-- Bytes that have arrived and have not been read, oldest first (10_state R34 (b)). -/
  rx : Bytes
  /-- Bytes the transport has sent, in wire order (20_memory R50). -/
  tx : Bytes
  /-- What the receive side will see next, oldest first: what the device has sent that is not taken in. -/
  wire : List WireEvent
  /-- What the device will send after each of the next writes; nothing where there is no entry. -/
  answers : List Answer
  /-- What becomes of the next writes: all bytes sent, or a failure after so many; a write with no entry succeeds. -/
  writeFates : List (Option Nat)
  /-- The invocations the caller has yet to make, oldest first (10_state R21, R22). -/
  calls : List Call
  deriving DecidableEq, Repr

/-- Why the machine stops where the spec gives it no next state. -/
inductive Fault where
  /-- Raised by `readExactly` when the bytes it waits for never arrive and the transport reports no failure: the one
  place an exchange can hang (70_reset_and_hazards R285, 93 U13 "stuck"). Safe: the run stops where the hardware
  waits. -/
  | readBlocked
  deriving DecidableEq, Repr

/-- Why an invocation has no meaning. -/
inductive Refusal where
  /-- Raised by `exec` for an instruction without a meaning; no arm raises it. Safe. -/
  | notModelled (mnemonic : String)
  /-- Raised by `step` when the caller has nothing to invoke: the CORE never acts on its own (10_state R22). Safe. -/
  | noInvocation
  /-- Raised by every unit on a Catalog a model does not admit (10_state R28, 92_eei_decisions D12). Safe. -/
  | catalogNotAdmitted
  /-- Raised by `step` on a payload or reply beyond `PAYLOAD_IN_MAX` or `REPLY_IN_MAX`: it "cannot be presented"
  (92_eei_decisions D2). Safe. -/
  | inputNotPresentable
  /-- Raised by `step` on wire bytes that are no request of the table (30_encoding R87, 93 U14). Safe. -/
  | illegalTelegram (why : DecodeError)
  /-- Raised by PCT16_ENC outside its domain (43_value_helpers R223, 93 U10). Safe. -/
  | percentOutOfDomain
  deriving DecidableEq, Repr

/-- The machine right after reset (10_state R35, 70_reset_and_hazards R270): the Catalog at its constants, no output.
DESIGN CHOICE (log entries 4, 5, 6): the environment is at rest and in step, with no exchange under way and nothing
pending, arrived, sent or to come. -/
def State.reset : State where
  params := Params.standard
  result := none
  link := .synchronised
  exchange := .none
  rx := []
  tx := []
  wire := []
  answers := []
  writeFates := []
  calls := []

end Sys2Proof.Machine
end

