-- ==== Sys2Proof/Machine/Flags.lean ====
section
/-! DEFINITION. There are no status flags (10_state R29). What takes their place: the frame mode, "the one internal
predicate worth a name", and the status code of a result (60_exceptions R240). -/

namespace Sys2Proof.Machine

/-- The frame mode (10_state R29). -/
inductive FrameMode where
  | write
  | query
  deriving DecidableEq, Repr

/-- A payload counts as present when it is present and non-empty (41_telegram_encoder R132, 90_conflicts C3). -/
def payloadPresent (payload : Option Bytes) : Bool :=
  match payload with
  | some (_ :: _) => true
  | some [] => false
  | none => false

/-- The write-eligibility gate: only a writable register with a non-empty payload gives a write-mode frame
(41_telegram_encoder R132). -/
def frameMode (writable present : Bool) : FrameMode :=
  if writable && present then .write else .query

/-- The numeric code of an error (60_exceptions R240). -/
def errorCode (e : CoreError) : Nat :=
  match e with
  | .unknownRegister => 1
  | .payloadLengthMismatch => 2
  | .replyLengthMismatch => 3
  | .transport => 4
  | .replyChecksumMismatch => 5

/-- The status of a result: `Ok = 0`, or the code of its error (60_exceptions R240). -/
def statusCode (r : Result) : Nat :=
  match r with
  | .error e => errorCode e
  | .entry _ | .request _ _ | .payload _ | .rawValue _ | .physicalValue _ | .float32 _ => 0
  | .sent | .received _ | .drained => 0

end Sys2Proof.Machine
end

