-- ==== Sys2Proof/Machine/Operands.lean ====
section
/-! DEFINITION. The operands of the units: the effective payload and the datapath of a frame (41_telegram_encoder R134
to R137), slices (00_scope R13), and which telegram form an invocation selects ("Selected when" in R140 to R160 and
42_telegram_decoder R190 to R205). -/

namespace Sys2Proof.Machine

/-- `s[a..b)` (00_scope R13). -/
def slice (s : Bytes) (a b : Nat) : Bytes :=
  (s.take b).drop a

/-- The payload that goes into the frame: the supplied bytes in write mode, nothing in a query
(41_telegram_encoder R134). -/
def effectivePayload (mode : FrameMode) (payload : Option Bytes) : Bytes :=
  match mode with
  | .write => payload.getD []
  | .query => []

/-- The value of the message type (30_encoding R75). -/
def messageTypeValue (mode : FrameMode) : Nat :=
  match mode with
  | .write => mtSend
  | .query => mtQuery

/-- Byte 0, by addition (41_telegram_encoder R135). -/
def startDelimiter (mode : FrameMode) (size : Nat) : Byte :=
  BitVec.ofNat 8 (messageTypeValue mode + castBroadcast + dirOut + (size - 1))

/-- The buffer closed with its checksum: the byte sum modulo 65536, its high byte first (41_telegram_encoder R137). -/
def sealFrame (head : Bytes) : Bytes :=
  let k := byteSum head % checksumMod
  head ++ [BitVec.ofNat 8 (k / 256), BitVec.ofNat 8 (k % 256)]

/-- The request form that ENCODE's inputs select, if they select one (41_telegram_encoder R140 to R160). -/
def selectRequest (k : Params) (c sel : Byte) (payload : Option Bytes) : Option Instr :=
  match k.regOf? c with
  | none => none
  | some r =>
    match frameMode (k.entry r).writable (payloadPresent payload), payload with
    | .query, _ => some (Instr.query r sel)
    | .write, some [p0, p1] => Instr.send? r sel p0 p1
    | .write, _ => none

/-- Fetching an invocation: the telegram form it selects, if it selects one. -/
def select (k : Params) (call : Call) : Option Instr :=
  match call with
  | .encode c sel payload => selectRequest k c sel payload
  | .decode c reply => decodeReplyForm k c reply
  | .wireForm bytes =>
    match decode k bytes with
    | .ok (i, _) => some i
    | .error _ => none
  | .lookup _ | .write _ | .read _ | .drain | .memRead _ _ | .memWrite _ _ _ _ | .pct16Encode _ _ | .u16Bytes _
  | .pct16Decode _ _ _ | .float32 _ _ _ _ | .receive | .reset => none

end Sys2Proof.Machine
end

