-- ==== Sys2Proof/Machine/Ops.lean ====
section
/-! DEFINITION. The named operations over the state: delivering a result, raising an error, the Catalog check, and the
three transport primitives (70_reset_and_hazards R275). -/

namespace Sys2Proof.Machine

/-- The operation returns: its result becomes the outputs and nothing else changes (10_state R23, R29). -/
def State.deliver (s : State) (r : Result) : State :=
  { s with result := some r }

/-- `raise E`: the one way an operation ends with an error. The error is the value returned; nothing is saved, no mode
changes, control goes nowhere (60_exceptions R244, R251). -/
def State.raise (s : State) (e : CoreError) : State :=
  s.deliver (.error e)

/-- The invocations the caller has yet to make. -/
def State.withCalls (s : State) (calls : List Call) : State :=
  { s with calls := calls }

/-- The link as it stands after a move. -/
def State.withLink (s : State) (link : Link) : State :=
  { s with link := link }

/-- The caller's exchange after a move. -/
def State.withExchange (s : State) (exchange : Exchange) : State :=
  { s with exchange := exchange }

/-- The receive side after a move: what has arrived and is unread, and what is still to come. -/
def State.withReceive (s : State) (rx : Bytes) (wire : List WireEvent) : State :=
  { s with rx := rx, wire := wire }

/-- The transmit side after a write: what has been sent, and what becomes of later writes. -/
def State.withSent (s : State) (tx : Bytes) (writeFates : List (Option Nat)) : State :=
  { s with tx := tx, writeFates := writeFates }

/-- What the device sends after the next write. -/
def State.nextAnswer (s : State) : Answer :=
  s.answers.headD ⟨[], []⟩

/-- The device answers a write: its reply and what follows are on their way (70_reset_and_hazards R275, R284). -/
def State.answered (s : State) : State :=
  { s with wire := s.wire ++ s.nextAnswer.reply ++ s.nextAnswer.ack, answers := s.answers.tail }

/-- A unit works on an admitted Catalog only (10_state R28, 92_eei_decisions D12). -/
def withCatalog (s : State) (answer : Host.Outcome State Fault Refusal) : Host.Outcome State Fault Refusal :=
  if s.params.admitted then answer else .refused .catalogNotAdmitted

/-- What a byte sequence is as a request on the link. Its length is the one byte 0 gives, its register is listed and its
size class the register's, a Send is for a writable register, and the checksum is right; `none` for anything ENCODE
cannot have built (30_encoding R74 to R86). -/
def requestOnLink? (k : Params) (bytes : Bytes) : Option Request :=
  match bytes with
  | d :: _ :: c :: _ =>
    match k.regOf? c with
    | none => none
    | some r =>
      if requestLength? d = some bytes.length ∧ castType d = 1 ∧ direction d = 1 ∧ lengthField d = sizeField k r
          ∧ (messageType d = sendType → (k.entry r).writable = true)
          ∧ withChecksum (bytes.take (bytes.length - checksumLen)) = bytes then
        some ⟨c, (k.entry r).replyFrameSize, messageType d == sendType⟩
      else none
  | _ => none

/-- The bytes among what is still to come. -/
def arrivals : List WireEvent → Bytes
  | [] => []
  | .arrive bytes :: later => bytes ++ arrivals later
  | .pause :: later => arrivals later
  | .readFault _ :: later => arrivals later

/-- Nothing the device has sent is left to read or to discard. -/
def State.quiet (s : State) : Bool :=
  s.rx == [] && arrivals s.wire == []

/-- A move that keeps the link in step only on a condition; a link that is out of step stays so, since "there is no
resynchronisation sequence" (70_reset_and_hazards R277). -/
def Link.keptIf (link : Link) (kept : Bool) : Link :=
  if kept then link else .desynchronised

/-- A request is in flight: written, its reply unread (70_reset_and_hazards R276). -/
def Exchange.awaitsReply (exchange : Exchange) : Bool :=
  match exchange with
  | .written _ _ => true
  | .none | .received _ _ | .drainDue => false

/-- Writing begins an exchange; bytes that are no request frame begin none (70_reset_and_hazards R284). -/
def exchangeAfterWrite (request : Option Request) (sent : Nat) (exchange : Exchange) : Exchange :=
  match request with
  | some r => .written r sent
  | none => exchange

/-- Reading the expected number of bytes ends the wait for the reply (70_reset_and_hazards R277). DESIGN CHOICE (log
entry 20): a read of another number leaves the reply awaited. -/
def exchangeAfterRead (taken : Bytes) (exchange : Exchange) : Exchange :=
  match exchange with
  | .written r sent => if taken.length = r.expected then .received r taken else .written r sent
  | .none => .none
  | .received r reply => .received r reply
  | .drainDue => .drainDue

/-- A read keeps the link in step when it takes exactly what the device sends in reply to the request in flight, which
must be what the Catalog expects, and leaves nothing of the answer to a query (10_state R34 (a), 70_reset_and_hazards
R277). DEDUCED (log entry 9): with no reply awaited, a read of at least one byte takes bytes that are not its own; a
read of no byte moves nothing. -/
def readKeepsLink (n : Nat) (nothingLeft : Bool) (exchange : Exchange) : Bool :=
  match exchange with
  | .written r sent => n == 0 || (n == r.expected && sent == r.expected && (r.isSend || nothingLeft))
  | .none | .received _ _ | .drainDue => n == 0

/-- A failed step ends a query; a write-mode exchange ends by its drain, which is then due (70_reset_and_hazards
R285). -/
def exchangeAfterFailure (exchange : Exchange) : Exchange :=
  match exchange with
  | .written r _ => if r.isSend then .drainDue else .none
  | .received r _ => if r.isSend then .drainDue else .none
  | .none => .none
  | .drainDue => .drainDue

/-- DECODE given the register and the bytes of the exchange ends a query, and leaves the drain of a Send
(70_reset_and_hazards R284, R285). DESIGN CHOICE (log entry 20): any other DECODE is no step of the exchange, whether it
returns or fails (R281), and leaves it under way: one of another register, one of other bytes than those read, and one
made while the reply is still awaited, also of the bytes that a read of another count than the expected one returned
(ReplyLengthMismatchError), since such a read is not the exchange's. -/
def exchangeAfterDecode (c : Byte) (reply : Bytes) (exchange : Exchange) : Exchange :=
  match exchange with
  | .received r received =>
    if c = r.code ∧ reply = received then (if r.isSend then .drainDue else .none) else .received r received
  | .none => .none
  | .written r sent => .written r sent
  | .drainDue => .drainDue

/-- The drain that is due ends a write-mode exchange (70_reset_and_hazards R278, R285). DESIGN CHOICE (log entry 20): a
drain at another time ends nothing, so one made between the read and DECODE of a Send does not count, and another is due
after DECODE. -/
def exchangeAfterDrain (exchange : Exchange) : Exchange :=
  match exchange with
  | .drainDue => .none
  | .none => .none
  | .written r sent => .written r sent
  | .received r reply => .received r reply

/-- A write that sends all its bytes, with the device's answer on its way. The link stays in step when a whole request
frame is written, no other is in flight (70_reset_and_hazards R276, R279), and nothing sent before is unread: an
acknowledgement not drained, or drained too early, "corrupts the next read" (R278). DEDUCED (log entry 9). -/
def sendAll (bytes : Bytes) (fates : List (Option Nat)) (s : State) : State :=
  let request := requestOnLink? s.params bytes
  ((((s.withSent (s.tx ++ bytes) fates).answered).withExchange
      (exchangeAfterWrite request (arrivals s.nextAnswer.reply).length s.exchange)).withLink
    (s.link.keptIf (request.isSome && !s.exchange.awaitsReply && s.quiet))).deliver .sent

/-- `write(bytes)`: sends the bytes in order, or fails after some of them, a failed step of the exchange that the
request begins (70_reset_and_hazards R275, R285; 60_exceptions R245). -/
def transportWrite (bytes : Bytes) (s : State) : State :=
  match s.writeFates with
  | some sent :: fates =>
    ((((s.withSent (s.tx ++ bytes.take sent) fates).answered).withExchange (exchangeAfterFailure
      (exchangeAfterWrite (requestOnLink? s.params bytes) (arrivals s.nextAnswer.reply).length s.exchange))).withLink
      .desynchronised).raise .transport
  | none :: fates => sendAll bytes fates s
  | [] => sendAll bytes [] s

/-- How a blocking read ends. -/
inductive Pull where
  /-- The bytes read, the bytes left over, and what is still to come. -/
  | got (taken rest : Bytes) (wire : List WireEvent)
  /-- A failure: the bytes left over, and what is still to come. -/
  | failed (rest : Bytes) (wire : List WireEvent)
  /-- The bytes never arrive. -/
  | blocked
  deriving DecidableEq, Repr

/-- Takes in arrivals until `n` bytes are there (70_reset_and_hazards R275: "a byte-counted reader"). DESIGN CHOICE (log
entry 14): a failed read loses the oldest of the bytes that had arrived, as many as the oracle says; and a read whose
bytes have all arrived succeeds, a fault that follows them waiting for a later read. -/
def pull (n : Nat) (rx : Bytes) (wire : List WireEvent) : Pull :=
  if n ≤ rx.length then .got (rx.take n) (rx.drop n) wire
  else
    match wire with
    | [] => .blocked
    | .arrive bytes :: later => pull n (rx ++ bytes) later
    | .pause :: later => pull n rx later
    | .readFault lost :: later => .failed (rx.drop lost) later

/-- `readExactly(n)`: blocks until exactly `n` bytes have arrived, or reports a failure that the caller sees as
`TransportError` (70_reset_and_hazards R275); it never returns if neither happens (R285). -/
def transportRead (n : Nat) (s : State) : Host.Outcome State Fault Refusal :=
  match pull n s.rx s.wire with
  | .got taken rest wire =>
    .next ((((s.withReceive rest wire).withExchange (exchangeAfterRead taken s.exchange)).withLink
      (s.link.keptIf (readKeepsLink n (rest == [] && arrivals wire == []) s.exchange))).deliver (.received taken))
  | .failed rest wire =>
    .next ((((s.withReceive rest wire).withExchange (exchangeAfterFailure s.exchange)).withLink .desynchronised).raise
      .transport)
  | .blocked => .fault .readBlocked

/-- What has arrived by now of what is to come. -/
def arrivedByNow : List WireEvent → Bytes
  | .arrive bytes :: later => bytes ++ arrivedByNow later
  | .pause :: _ => []
  | .readFault _ :: _ => []
  | [] => []

/-- What has not arrived by now. -/
def notYetArrived : List WireEvent → List WireEvent
  | .arrive _ :: later => notYetArrived later
  | .pause :: later => .pause :: later
  | .readFault lost :: later => .readFault lost :: later
  | [] => []

/-- `discardPendingInput()`: throws away whatever has arrived and not been read (70_reset_and_hazards R275). The link is
lost when bytes of an awaited reply are among it (log entry 9). DESIGN CHOICE (log entry 18): at any other time, with no
exchange under way too, a drain keeps the link as it is, although no source says that it is harmless there
(91_not_in_source N11); and it keeps it also when the acknowledgement has not arrived yet, which then stays to come
and makes the next write lose the link. -/
def discardPending (s : State) : State :=
  ((s.withReceive [] (notYetArrived s.wire)).withExchange (exchangeAfterDrain s.exchange)).withLink
    (s.link.keptIf (!s.exchange.awaitsReply || s.rx ++ arrivedByNow s.wire == []))

/-- Time passes: the next arrival reaches the receive side; a failure waits for the read it belongs to
(10_state R34 (b)). -/
def receiveNext (s : State) : State :=
  match s.wire with
  | .arrive bytes :: later => s.withReceive (s.rx ++ bytes) later
  | .pause :: later => s.withReceive s.rx later
  | .readFault _ :: _ => s
  | [] => s

/-- A reset: nothing any rule reads changes inside the block and the outputs have no value (70_reset_and_hazards R270,
10_state R35). DEDUCED (log entry 9): an exchange under way is over and loses the link, as R271 says that it may.
DESIGN CHOICE (log entry 17): the bytes that have arrived unread, the bytes to come and what the device will do stay as
they were, since R35 says that no source specifies the device's unread output. -/
def resetBlock (s : State) : State :=
  { s with result := none, exchange := .none, link := s.link.keptIf (s.exchange == .none) }

end Sys2Proof.Machine
end

