-- ==== Sys2Proof/Machine/Decoder.lean ====
section
/-! DEFINITION. telegram_decoder (DEC): DECODE (42_telegram_decoder R180 to R186) and the meanings of the sixteen
REPLY forms, each one invocation of DECODE for the register of the form. -/

namespace Sys2Proof.Machine

/-- Whether the last two bytes of a reply are the sum of the earlier ones (42_telegram_decoder R185): the only place a
reply's framing bytes are read. -/
def replyChecksumOk (reply : Bytes) : Bool :=
  unbe16 (slice reply (reply.length - checksumLen) reply.length)
    == byteSum (slice reply 0 (reply.length - checksumLen)) % checksumMod

/-- DECODE (42_telegram_decoder R180, R185, R186): the bytes between header and checksum, verbatim, or the first
error in the order of 60_exceptions R250. -/
def decodeReply (k : Params) (c : Byte) (reply : Bytes) : Except CoreError Bytes :=
  match lookup k c with
  | .error e => .error e
  | .ok e =>
    if reply.length ≠ e.replyFrameSize then .error .replyLengthMismatch
    else if e.replyFrameSize < overhead then .error .replyLengthMismatch
    else if k.strictReplyChecksum && !replyChecksumOk reply then .error .replyChecksumMismatch
    else .ok (slice reply headerLen (e.replyFrameSize - checksumLen))

/-- The result of one DEC invocation. -/
def decodeResult (k : Params) (c : Byte) (reply : Bytes) : Result :=
  match decodeReply k c reply with
  | .ok payload => .payload payload
  | .error e => .error e

/-- One invocation of DEC for a register, in a machine whose Catalog is admitted. -/
def invokeDecoder (r : Reg) (reply : Bytes) (s : State) : Host.Outcome State Fault Refusal :=
  withCatalog s (.next (s.deliver (decodeResult s.params (s.params.regCode.get r) reply)))

/-- REPLY.DeviceType (42_telegram_decoder R190). -/
def execReplyDeviceType (reply : Bytes) (s : State) : Host.Outcome State Fault Refusal :=
  invokeDecoder .deviceType reply s

/-- REPLY.SerialNumber (42_telegram_decoder R191). -/
def execReplySerialNumber (reply : Bytes) (s : State) : Host.Outcome State Fault Refusal :=
  invokeDecoder .serialNumber reply s

/-- REPLY.NominalVoltage (42_telegram_decoder R192). -/
def execReplyNominalVoltage (reply : Bytes) (s : State) : Host.Outcome State Fault Refusal :=
  invokeDecoder .nominalVoltage reply s

/-- REPLY.NominalCurrent (42_telegram_decoder R193). -/
def execReplyNominalCurrent (reply : Bytes) (s : State) : Host.Outcome State Fault Refusal :=
  invokeDecoder .nominalCurrent reply s

/-- REPLY.NominalPower (42_telegram_decoder R194). -/
def execReplyNominalPower (reply : Bytes) (s : State) : Host.Outcome State Fault Refusal :=
  invokeDecoder .nominalPower reply s

/-- REPLY.ArticleNumber (42_telegram_decoder R195). -/
def execReplyArticleNumber (reply : Bytes) (s : State) : Host.Outcome State Fault Refusal :=
  invokeDecoder .articleNumber reply s

/-- REPLY.Manufacturer (42_telegram_decoder R196). -/
def execReplyManufacturer (reply : Bytes) (s : State) : Host.Outcome State Fault Refusal :=
  invokeDecoder .manufacturer reply s

/-- REPLY.SoftwareVersion (42_telegram_decoder R197). -/
def execReplySoftwareVersion (reply : Bytes) (s : State) : Host.Outcome State Fault Refusal :=
  invokeDecoder .softwareVersion reply s

/-- REPLY.DeviceClass (42_telegram_decoder R198). -/
def execReplyDeviceClass (reply : Bytes) (s : State) : Host.Outcome State Fault Refusal :=
  invokeDecoder .deviceClass reply s

/-- REPLY.OvpThreshold (42_telegram_decoder R199). -/
def execReplyOvpThreshold (reply : Bytes) (s : State) : Host.Outcome State Fault Refusal :=
  invokeDecoder .ovpThreshold reply s

/-- REPLY.OcpThreshold (42_telegram_decoder R200). -/
def execReplyOcpThreshold (reply : Bytes) (s : State) : Host.Outcome State Fault Refusal :=
  invokeDecoder .ocpThreshold reply s

/-- REPLY.SetValueVoltage (42_telegram_decoder R201). -/
def execReplySetValueVoltage (reply : Bytes) (s : State) : Host.Outcome State Fault Refusal :=
  invokeDecoder .setValueVoltage reply s

/-- REPLY.SetValueCurrent (42_telegram_decoder R202). -/
def execReplySetValueCurrent (reply : Bytes) (s : State) : Host.Outcome State Fault Refusal :=
  invokeDecoder .setValueCurrent reply s

/-- REPLY.PowerSupplyControl (42_telegram_decoder R203). -/
def execReplyPowerSupplyControl (reply : Bytes) (s : State) : Host.Outcome State Fault Refusal :=
  invokeDecoder .powerSupplyControl reply s

/-- REPLY.StatusActualValues (42_telegram_decoder R204). -/
def execReplyStatusActualValues (reply : Bytes) (s : State) : Host.Outcome State Fault Refusal :=
  invokeDecoder .statusActualValues reply s

/-- REPLY.StatusSetValues (42_telegram_decoder R205). -/
def execReplyStatusSetValues (reply : Bytes) (s : State) : Host.Outcome State Fault Refusal :=
  invokeDecoder .statusSetValues reply s

end Sys2Proof.Machine
end

