-- ==== Sys2Proof/Machine/Encoder.lean ====
section
/-! DEFINITION. telegram_encoder (ENC): ENCODE (41_telegram_encoder R130 to R138) and the meanings of the sixteen
QUERY and the five SEND forms, each one invocation of ENCODE with the inputs that select the form. -/

namespace Sys2Proof.Machine

/-- ENCODE (41_telegram_encoder R130): the frame and the expected reply length, or the first error in the order of
60_exceptions R250. -/
def encodeRequest (k : Params) (c sel : Byte) (payload : Option Bytes) : Except CoreError (Bytes × Nat) :=
  match lookup k c with
  | .error e => .error e
  | .ok e =>
    let mode := frameMode e.writable (payloadPresent payload)
    if mode = .write ∧ (payload.getD []).length ≠ e.allocatedPayloadSize then
      .error .payloadLengthMismatch
    else
      .ok (sealFrame (startDelimiter mode e.allocatedPayloadSize :: sel :: c :: effectivePayload mode payload),
        e.replyFrameSize)

/-- The result of one ENC invocation. -/
def encodeResult (k : Params) (c sel : Byte) (payload : Option Bytes) : Result :=
  match encodeRequest k c sel payload with
  | .ok (frame, expected) => .request frame expected
  | .error e => .error e

/-- One invocation of ENC for a register and a payload, in a machine whose Catalog is admitted. -/
def invokeEncoder (r : Reg) (sel : Byte) (payload : Option Bytes) (s : State) : Host.Outcome State Fault Refusal :=
  withCatalog s (.next (s.deliver (encodeResult s.params (s.params.regCode.get r) sel payload)))

/-- QUERY.DeviceType (41_telegram_encoder R140). -/
def execQueryDeviceType (sel : Byte) (s : State) : Host.Outcome State Fault Refusal :=
  invokeEncoder .deviceType sel none s

/-- QUERY.SerialNumber (41_telegram_encoder R141). -/
def execQuerySerialNumber (sel : Byte) (s : State) : Host.Outcome State Fault Refusal :=
  invokeEncoder .serialNumber sel none s

/-- QUERY.NominalVoltage (41_telegram_encoder R142). -/
def execQueryNominalVoltage (sel : Byte) (s : State) : Host.Outcome State Fault Refusal :=
  invokeEncoder .nominalVoltage sel none s

/-- QUERY.NominalCurrent (41_telegram_encoder R143). -/
def execQueryNominalCurrent (sel : Byte) (s : State) : Host.Outcome State Fault Refusal :=
  invokeEncoder .nominalCurrent sel none s

/-- QUERY.NominalPower (41_telegram_encoder R144). -/
def execQueryNominalPower (sel : Byte) (s : State) : Host.Outcome State Fault Refusal :=
  invokeEncoder .nominalPower sel none s

/-- QUERY.ArticleNumber (41_telegram_encoder R145). -/
def execQueryArticleNumber (sel : Byte) (s : State) : Host.Outcome State Fault Refusal :=
  invokeEncoder .articleNumber sel none s

/-- QUERY.Manufacturer (41_telegram_encoder R146). -/
def execQueryManufacturer (sel : Byte) (s : State) : Host.Outcome State Fault Refusal :=
  invokeEncoder .manufacturer sel none s

/-- QUERY.SoftwareVersion (41_telegram_encoder R147). -/
def execQuerySoftwareVersion (sel : Byte) (s : State) : Host.Outcome State Fault Refusal :=
  invokeEncoder .softwareVersion sel none s

/-- QUERY.DeviceClass (41_telegram_encoder R148). -/
def execQueryDeviceClass (sel : Byte) (s : State) : Host.Outcome State Fault Refusal :=
  invokeEncoder .deviceClass sel none s

/-- QUERY.OvpThreshold (41_telegram_encoder R149). -/
def execQueryOvpThreshold (sel : Byte) (s : State) : Host.Outcome State Fault Refusal :=
  invokeEncoder .ovpThreshold sel none s

/-- QUERY.OcpThreshold (41_telegram_encoder R150). -/
def execQueryOcpThreshold (sel : Byte) (s : State) : Host.Outcome State Fault Refusal :=
  invokeEncoder .ocpThreshold sel none s

/-- QUERY.SetValueVoltage (41_telegram_encoder R151). -/
def execQuerySetValueVoltage (sel : Byte) (s : State) : Host.Outcome State Fault Refusal :=
  invokeEncoder .setValueVoltage sel none s

/-- QUERY.SetValueCurrent (41_telegram_encoder R152). -/
def execQuerySetValueCurrent (sel : Byte) (s : State) : Host.Outcome State Fault Refusal :=
  invokeEncoder .setValueCurrent sel none s

/-- QUERY.PowerSupplyControl (41_telegram_encoder R153). -/
def execQueryPowerSupplyControl (sel : Byte) (s : State) : Host.Outcome State Fault Refusal :=
  invokeEncoder .powerSupplyControl sel none s

/-- QUERY.StatusActualValues (41_telegram_encoder R154). -/
def execQueryStatusActualValues (sel : Byte) (s : State) : Host.Outcome State Fault Refusal :=
  invokeEncoder .statusActualValues sel none s

/-- QUERY.StatusSetValues (41_telegram_encoder R155). -/
def execQueryStatusSetValues (sel : Byte) (s : State) : Host.Outcome State Fault Refusal :=
  invokeEncoder .statusSetValues sel none s

/-- SEND.OvpThreshold (41_telegram_encoder R156). -/
def execSendOvpThreshold (sel p0 p1 : Byte) (s : State) : Host.Outcome State Fault Refusal :=
  invokeEncoder .ovpThreshold sel (some [p0, p1]) s

/-- SEND.OcpThreshold (41_telegram_encoder R157). -/
def execSendOcpThreshold (sel p0 p1 : Byte) (s : State) : Host.Outcome State Fault Refusal :=
  invokeEncoder .ocpThreshold sel (some [p0, p1]) s

/-- SEND.SetValueVoltage (41_telegram_encoder R158). -/
def execSendSetValueVoltage (sel p0 p1 : Byte) (s : State) : Host.Outcome State Fault Refusal :=
  invokeEncoder .setValueVoltage sel (some [p0, p1]) s

/-- SEND.SetValueCurrent (41_telegram_encoder R159). -/
def execSendSetValueCurrent (sel p0 p1 : Byte) (s : State) : Host.Outcome State Fault Refusal :=
  invokeEncoder .setValueCurrent sel (some [p0, p1]) s

/-- SEND.PowerSupplyControl (41_telegram_encoder R160). -/
def execSendPowerSupplyControl (sel p0 p1 : Byte) (s : State) : Host.Outcome State Fault Refusal :=
  invokeEncoder .powerSupplyControl sel (some [p0, p1]) s

end Sys2Proof.Machine
end

