-- ==== Sys2Proof/Machine/Dispatch.lean ====
section
/-! DEFINITION. One arm per telegram form. -/

namespace Sys2Proof.Machine

def exec (i : Instr) (s : State) : Host.Outcome State Fault Refusal :=
  match i with
  | .queryDeviceType sel => Sys2Proof.Machine.execQueryDeviceType sel s
  | .querySerialNumber sel => Sys2Proof.Machine.execQuerySerialNumber sel s
  | .queryNominalVoltage sel => Sys2Proof.Machine.execQueryNominalVoltage sel s
  | .queryNominalCurrent sel => Sys2Proof.Machine.execQueryNominalCurrent sel s
  | .queryNominalPower sel => Sys2Proof.Machine.execQueryNominalPower sel s
  | .queryArticleNumber sel => Sys2Proof.Machine.execQueryArticleNumber sel s
  | .queryManufacturer sel => Sys2Proof.Machine.execQueryManufacturer sel s
  | .querySoftwareVersion sel => Sys2Proof.Machine.execQuerySoftwareVersion sel s
  | .queryDeviceClass sel => Sys2Proof.Machine.execQueryDeviceClass sel s
  | .queryOvpThreshold sel => Sys2Proof.Machine.execQueryOvpThreshold sel s
  | .queryOcpThreshold sel => Sys2Proof.Machine.execQueryOcpThreshold sel s
  | .querySetValueVoltage sel => Sys2Proof.Machine.execQuerySetValueVoltage sel s
  | .querySetValueCurrent sel => Sys2Proof.Machine.execQuerySetValueCurrent sel s
  | .queryPowerSupplyControl sel => Sys2Proof.Machine.execQueryPowerSupplyControl sel s
  | .queryStatusActualValues sel => Sys2Proof.Machine.execQueryStatusActualValues sel s
  | .queryStatusSetValues sel => Sys2Proof.Machine.execQueryStatusSetValues sel s
  | .sendOvpThreshold sel p0 p1 => Sys2Proof.Machine.execSendOvpThreshold sel p0 p1 s
  | .sendOcpThreshold sel p0 p1 => Sys2Proof.Machine.execSendOcpThreshold sel p0 p1 s
  | .sendSetValueVoltage sel p0 p1 => Sys2Proof.Machine.execSendSetValueVoltage sel p0 p1 s
  | .sendSetValueCurrent sel p0 p1 => Sys2Proof.Machine.execSendSetValueCurrent sel p0 p1 s
  | .sendPowerSupplyControl sel p0 p1 => Sys2Proof.Machine.execSendPowerSupplyControl sel p0 p1 s
  | .replyDeviceType reply => Sys2Proof.Machine.execReplyDeviceType reply s
  | .replySerialNumber reply => Sys2Proof.Machine.execReplySerialNumber reply s
  | .replyNominalVoltage reply => Sys2Proof.Machine.execReplyNominalVoltage reply s
  | .replyNominalCurrent reply => Sys2Proof.Machine.execReplyNominalCurrent reply s
  | .replyNominalPower reply => Sys2Proof.Machine.execReplyNominalPower reply s
  | .replyArticleNumber reply => Sys2Proof.Machine.execReplyArticleNumber reply s
  | .replyManufacturer reply => Sys2Proof.Machine.execReplyManufacturer reply s
  | .replySoftwareVersion reply => Sys2Proof.Machine.execReplySoftwareVersion reply s
  | .replyDeviceClass reply => Sys2Proof.Machine.execReplyDeviceClass reply s
  | .replyOvpThreshold reply => Sys2Proof.Machine.execReplyOvpThreshold reply s
  | .replyOcpThreshold reply => Sys2Proof.Machine.execReplyOcpThreshold reply s
  | .replySetValueVoltage reply => Sys2Proof.Machine.execReplySetValueVoltage reply s
  | .replySetValueCurrent reply => Sys2Proof.Machine.execReplySetValueCurrent reply s
  | .replyPowerSupplyControl reply => Sys2Proof.Machine.execReplyPowerSupplyControl reply s
  | .replyStatusActualValues reply => Sys2Proof.Machine.execReplyStatusActualValues reply s
  | .replyStatusSetValues reply => Sys2Proof.Machine.execReplyStatusSetValues reply s

end Sys2Proof.Machine
end

