-- ==== Sys2Proof/Machine/Helpers.lean ====
section
/-! DEFINITION. The value helpers (43_value_helpers R220 to R226), an ancillary family that no unit calls. Arithmetic
is exact on rationals unless the parameter `numerics` asks for the software's, whose results are free values (R225,
92_eei_decisions D14, log entry 16). -/

namespace Sys2Proof.Machine

/-- `ceil(25600 * physical / nominal)`, the quotient exact, the rounding upward (43_value_helpers R220). -/
def percentRaw (physical nominal : Rat) : Int :=
  ⌈(pctScale : Rat) * physical / nominal⌉

/-- How far the software's quotient lies from the exact one at most. DESIGN CHOICE (log entry 16): one seventh, the most
that leaves DOC's example safe, as 43_value_helpers R225 says it is (25600 * 25.5 / 42 lies one seventh below 15543). -/
def quotientErrorBound : Rat := 1 / 7

/-- The rounding error of the software's quotient: any number within the bound (43_value_helpers R225). -/
def quotientError (physical nominal : Rat) : Rat :=
  max (-quotientErrorBound) (min quotientErrorBound (Config.floatQuotientError physical nominal))

/-- The raw value under either numerics. The software rounds a quotient that carries a rounding error upward, so its
result differs from the exact one, by one, only where the exact quotient is within that error of an integer
(43_value_helpers R220, R225; log entry 16). -/
def percentRawIn (numerics : Numerics) (physical nominal : Rat) : Int :=
  match numerics with
  | .exact => percentRaw physical nominal
  | .softwareFloat => ⌈(pctScale : Rat) * physical / nominal + quotientError physical nominal⌉

/-- PCT16_ENC has a meaning only when the nominal value is positive, the physical value is not negative and the result
fits 16 bits (43_value_helpers R223); it never truncates. -/
def pct16Encode (numerics : Numerics) (physical nominal : Rat) : Option (BitVec 16) :=
  if 0 < nominal ∧ 0 ≤ physical ∧ percentRawIn numerics physical nominal ≤ 65535 then
    some (BitVec.ofInt 16 (percentRawIn numerics physical nominal))
  else none

/-- U16_BE (43_value_helpers R221). -/
def u16Bytes (raw : BitVec 16) : Bytes :=
  be16 raw

/-- PCT16_DEC: `rawValue * nominal / 25600`, exact, without rounding (43_value_helpers R222); under the software's
numerics a free value (R225, log entry 16). DEDUCED (log entry 15): it has a value for every nominal value. -/
def pct16Decode (numerics : Numerics) (h l : Byte) (nominal : Rat) : Rat :=
  match numerics with
  | .exact => (unbe16 [h, l] : Rat) * nominal / (pctScale : Rat)
  | .softwareFloat => Config.floatPhysical (unbe16 [h, l]) nominal

/-- F32_BE: `b3` holds the sign and the high exponent bits, `b0` the low fraction bits (43_value_helpers R226). No
arithmetic on the value takes place. -/
def float32Bits (b3 b2 b1 b0 : Byte) : BitVec 32 :=
  b3 ++ b2 ++ b1 ++ b0

/-- The number a binary32 word stands for; none for an infinity or a NaN.
PRESUMED (log entry 10): the bit layout is the standard's, the source names the format only. No step reads it. -/
def float32Value? (bits : BitVec 32) : Option Rat :=
  let sign : Rat := if bits.getLsbD 31 then -1 else 1
  let exponent := (bits.extractLsb' 23 8).toNat
  let fraction : Rat := (bits.extractLsb' 0 23).toNat
  if exponent = 255 then none
  else if exponent = 0 then some (sign * fraction / 2 ^ 149)
  else some (sign * (8388608 + fraction) * 2 ^ exponent / 2 ^ 150)

/-- An invocation of PCT16_ENC: its raw value, or a refusal of inputs no source covers (43_value_helpers R223). -/
def invokePct16Encode (physical nominal : Rat) (s : State) : Host.Outcome State Fault Refusal :=
  match pct16Encode s.params.numerics physical nominal with
  | some raw => .next (s.deliver (.rawValue raw))
  | none => .refused .percentOutOfDomain

end Sys2Proof.Machine
end

