-- ==== Sys2Proof/Machine/Exchange.lean ====
section
/-! DEFINITION. Whole exchanges over the transport oracle (20_memory R64, R65; 70_reset_and_hazards R284), and the
meaning of every invocation as the operation it names. -/

namespace Sys2Proof.Machine

/-- DECODE on the bytes just read; any other result has ended the sequence (20_memory R64). -/
def decodeReceived (c : Byte) (s : State) : State :=
  match s.result with
  | some (.received reply) =>
    (s.withExchange (exchangeAfterDecode c reply s.exchange)).deliver (decodeResult s.params c reply)
  | _ => s

/-- `write(frame)`, `readExactly(expected)`, DECODE; an error ends the sequence (20_memory R64). -/
def roundTrip (c : Byte) (frame : Bytes) (expected : Nat) (s : State) : Host.Outcome State Fault Refusal :=
  let written := transportWrite frame s
  match written.result with
  | some .sent =>
    match transportRead expected written with
    | .next s' => .next (decodeReceived c s')
    | .fault f => .fault f
    | .refused r => .refused r
  | _ => .next written

/-- `MemRead((s, c), n)` (20_memory R64). -/
def memRead (sel c : Byte) (s : State) : Host.Outcome State Fault Refusal :=
  match encodeRequest s.params c sel none with
  | .error e => .next (s.raise e)
  | .ok (frame, expected) => roundTrip c frame expected s

/-- Whether a frame's message type is Send: what tells a caller that a drain is due (70_reset_and_hazards R278). -/
def isSendFrame (frame : Bytes) : Bool :=
  match frame with
  | d :: _ => messageType d == sendType
  | [] => false

/-- The drain that ends an exchange, if no step has failed; the payload stays the result.
DEDUCED (log entry 9): a failed step ends the sequence of MemWrite before its drain, as 20_memory R64 says of MemRead;
after a Send the drain is then due (70_reset_and_hazards R285). -/
def drainAfter (due : Bool) (s : State) : State :=
  match s.result with
  | some (.payload _) => if due then discardPending s else s
  | _ => s

/-- `MemWrite((s, c), n, v)` (20_memory R65): the drain follows every write-mode exchange, and a query in disguise only
if the caller so chooses. -/
def memWrite (sel c : Byte) (v : Bytes) (drainAnyway : Bool) (s : State) : Host.Outcome State Fault Refusal :=
  match encodeRequest s.params c sel (some v) with
  | .error e => .next (s.raise e)
  | .ok (frame, expected) =>
    match roundTrip c frame expected s with
    | .next s' => .next (drainAfter (isSendFrame frame || drainAnyway) s')
    | .fault f => .fault f
    | .refused r => .refused r

/-- The result of one LOOKUP (40_catalog_lookup R100). -/
def lookupResult (k : Params) (c : Byte) : Result :=
  match lookup k c with
  | .ok e => .entry e
  | .error e => .error e

/-- The meaning of an invocation as the operation it names, whether or not it selects a telegram form. -/
def runCall (call : Call) (s : State) : Host.Outcome State Fault Refusal :=
  match call with
  | .lookup c => withCatalog s (.next (s.deliver (lookupResult s.params c)))
  | .encode c sel payload => withCatalog s (.next (s.deliver (encodeResult s.params c sel payload)))
  | .decode c reply => withCatalog s (.next (s.deliver (decodeResult s.params c reply)))
  | .wireForm bytes =>
    match decode s.params bytes with
    | .ok (i, _) => exec i s
    | .error why => .refused (.illegalTelegram why)
  | .write bytes => .next (transportWrite bytes s)
  | .read n => transportRead n s
  | .drain => .next ((discardPending s).deliver .drained)
  | .memRead sel c => withCatalog s (memRead sel c s)
  | .memWrite sel c v drainAnyway => withCatalog s (memWrite sel c v drainAnyway s)
  | .pct16Encode physical nominal => invokePct16Encode physical nominal s
  | .u16Bytes raw => .next (s.deliver (.payload (u16Bytes raw)))
  | .pct16Decode h l nominal => .next (s.deliver (.physicalValue (pct16Decode s.params.numerics h l nominal)))
  | .float32 b3 b2 b1 b0 => .next (s.deliver (.float32 (float32Bits b3 b2 b1 b0)))
  | .receive => .next (receiveNext s)
  | .reset => .next (resetBlock s)

/-- Whether the byte sequences of an invocation fit the input bounds of a hardware realisation
(92_eei_decisions D2). -/
def presentable (k : Params) (call : Call) : Bool :=
  match call with
  | .encode _ _ payload => withinBound k.payloadInMax (payload.getD []).length
  | .decode _ reply => withinBound k.replyInMax reply.length
  | .memWrite _ _ v _ => withinBound k.payloadInMax v.length
  | .lookup _ | .wireForm _ | .write _ | .read _ | .drain | .memRead _ _ | .pct16Encode _ _ | .u16Bytes _
  | .pct16Decode _ _ _ | .float32 _ _ _ _ | .receive | .reset => true

/-- What the caller notes when it invokes a unit: DECODE of the register and the bytes of its exchange moves the
exchange on (70_reset_and_hazards R284). No unit reads or changes it (10_state R34). -/
def State.noted (s : State) (call : Call) : State :=
  match call with
  | .decode c reply => s.withExchange (exchangeAfterDecode c reply s.exchange)
  | .lookup _ | .encode _ _ _ | .wireForm _ | .write _ | .read _ | .drain | .memRead _ _ | .memWrite _ _ _ _
  | .pct16Encode _ _ | .u16Bytes _ | .pct16Decode _ _ _ | .float32 _ _ _ _ | .receive | .reset => s

/-- One invocation. Where it selects a telegram form, the form's meaning runs; any other runs as the operation it
names; one whose input exceeds a bound cannot be presented. -/
def invoke (call : Call) (s : State) : Host.Outcome State Fault Refusal :=
  if presentable s.params call then
    match select s.params call with
    | some i => exec i (s.noted call)
    | none => runCall call (s.noted call)
  else .refused .inputNotPresentable

end Sys2Proof.Machine
end

