-- ==== Sys2Proof/Machine/Step.lean ====
section
/-! DEFINITION. One step: the caller's oldest invocation. -/

namespace Sys2Proof.Machine

/-- The CORE has a step only when the caller invokes something (10_state R22): the oldest invocation. -/
def step (s : State) : Host.Outcome State Fault Refusal :=
  match s.calls with
  | [] => .refused .noInvocation
  | call :: later => invoke call (s.withCalls later)

/-- The instruction with these bits as the caller's next invocation (log entry 8). -/
def State.withFetchWord (s : State) (nbits w : Nat) : State :=
  s.withCalls (.wireForm (wordBytes nbits w) :: s.calls)

end Sys2Proof.Machine
end

