-- ==== Sys2Proof/Safety.lean ====
section
/-! DEFINITION. What counts as a safe run: the duties of the caller (70_reset_and_hazards R284), a transport that does
not fail, and the invariants of the machine. -/

namespace Sys2Proof

/-- The parameters that fix every byte a unit computes, at their defaults: the table of 40_catalog_lookup R103 with
`REPLY_SIZE_SCALAR16 = 7` and the codes of 20_memory R47; the others at any value that is admitted. -/
def Params.hasStandardTable (k : Params) : Prop :=
  k.regCode = defaultRegCode ∧ k.catalog = catalogWith 7 ∧ k.admitted = true

end Sys2Proof

namespace Sys2Proof.Machine

/-- The caller's must-column of 70_reset_and_hazards R284 (with R276 to R278): begin an exchange only when the one
before is over, write a whole request frame, read exactly the expected length, give DECODE the register and the bytes of
the exchange, and do not throw away a reply that is awaited. A drain at another time is the caller's liberty. That a
reset finds no exchange under way is no duty of the caller's; it is asked here all the same (R271). -/
def respectsDuties (s : State) (call : Call) : Bool :=
  match call with
  | .write bytes => s.exchange == .none && (requestOnLink? s.params bytes).isSome
  | .read n =>
    match s.exchange with
    | .written r _ => n == r.expected
    | .none | .received _ _ | .drainDue => false
  | .decode c reply =>
    match s.exchange with
    | .received r received => c == r.code && reply == received
    | .none | .written _ _ | .drainDue => true
  | .drain => !s.exchange.awaitsReply
  | .memRead _ _ | .memWrite _ _ _ _ => s.exchange == .none
  | .reset => s.exchange == .none
  | .lookup _ | .encode _ _ _ | .wireForm _ | .pct16Encode _ _ | .u16Bytes _ | .pct16Decode _ _ _
  | .float32 _ _ _ _ | .receive => true

/-- The request that an invocation writes to the link, if it writes one. -/
def requestWritten? (k : Params) (call : Call) : Option Request :=
  match call with
  | .write bytes => requestOnLink? k bytes
  | .memRead sel c =>
    match encodeRequest k c sel none with
    | .ok (frame, _) => requestOnLink? k frame
    | .error _ => none
  | .memWrite sel c v _ =>
    match encodeRequest k c sel (some v) with
    | .ok (frame, _) => requestOnLink? k frame
    | .error _ => none
  | .lookup _ | .encode _ _ _ | .decode _ _ | .wireForm _ | .read _ | .drain | .pct16Encode _ _ | .u16Bytes _
  | .pct16Decode _ _ _ | .float32 _ _ _ _ | .receive | .reset => none

/-- No I/O failure among these events. -/
def faultFree (events : List WireEvent) : Bool :=
  events.all (fun event =>
    match event with
    | .arrive _ | .pause => true
    | .readFault _ => false)

/-- Nothing but arrivals: no I/O failure, and everything has arrived when a drain runs. -/
def prompt (events : List WireEvent) : Bool :=
  events.all (fun event =>
    match event with
    | .arrive _ => true
    | .pause | .readFault _ => false)

/-- "the device sends exactly `replyFrameSize` bytes" (70_reset_and_hazards R277), and nothing more unless the request
was a Send (R284). -/
def Answer.exact (a : Answer) (r : Request) : Bool :=
  (arrivals a.reply).length == r.expected && (r.isSend || arrivals a.ack == [])

/-- The named premise of 70_reset_and_hazards R277 and R284 on the device, for the request an invocation writes: it
sends exactly the expected reply, after a Send an acknowledgement besides, without failure and in time for the drain.
It is "not a fact about any device" and errs toward proving if wrong (log entry 19). -/
def deviceKeepsContract (s : State) (call : Call) : Bool :=
  match requestWritten? s.params call with
  | some r => s.nextAnswer.exact r && prompt (s.nextAnswer.reply ++ s.nextAnswer.ack)
  | none => true

/-- Ready for an exchange: the link in step, no exchange under way, nothing left of an earlier one. -/
def State.ready (s : State) : Prop :=
  s.link = .synchronised ∧ s.exchange = .none ∧ s.quiet = true

/-- In step with the device at every stage of an exchange (10_state R34 (a)): the reply that is awaited is on its way in
full, after a query nothing is left, and no failure or delay lies ahead. -/
def State.inStep (s : State) : Prop :=
  s.link = .synchronised ∧ s.writeFates.all (· == none) = true ∧ prompt s.wire = true
    ∧ match s.exchange with
      | .none => s.quiet = true
      | .written r sent => sent = r.expected ∧ r.expected ≤ (s.rx ++ arrivals s.wire).length
          ∧ (r.isSend = false → (s.rx ++ arrivals s.wire).length = r.expected)
      | .received r _ => r.isSend = false → s.quiet = true
      | .drainDue => True

/-- What a result says about the parameters it was computed from: an entry is one of the Catalog, a frame is a request
whose reply length stands beside it, a payload has the length of a reply's payload or of a 16-bit value. -/
def resultFits (k : Params) (r : Result) : Prop :=
  match r with
  | .entry e => ∃ reg, k.entry reg = e
  | .request frame expected => ∃ r, requestOnLink? k frame = some r ∧ r.expected = expected
  | .payload bytes => bytes.length = 2 ∨ ∃ reg, bytes.length + overhead = (k.entry reg).replyFrameSize
  | .rawValue _ | .physicalValue _ | .float32 _ | .sent | .received _ | .drained | .error _ => True

/-- A request is some register's: its code, its reply length, and a Send only if the register is writable. -/
def requestFits (k : Params) (r : Request) : Prop :=
  ∃ reg, k.regCode.get reg = r.code ∧ (k.entry reg).replyFrameSize = r.expected
    ∧ (r.isSend = true → (k.entry reg).writable = true)

/-- The request of the exchange under way is some register's, and the bytes read for it are as many as expected. -/
def exchangeFits (k : Params) (exchange : Exchange) : Prop :=
  match exchange with
  | .written r _ => requestFits k r
  | .received r reply => requestFits k r ∧ reply.length = r.expected
  | .none | .drainDue => True

/-- The invariant: an admitted Catalog, outputs that fit it, an exchange that fits it. -/
def State.Inv (s : State) : Prop :=
  s.params.admitted = true ∧ (∀ r, s.result = some r → resultFits s.params r) ∧ exchangeFits s.params s.exchange

end Sys2Proof.Machine
end

