-- ==== Sys2Proof/Certificates/Slice0/Obligations.lean ====
section
/-! DEFINITION. The statements for the provers, from the numbered rules of the spec. Where a statement names a register
code other than 0x02 it rests on the default `regCode`, which the spec marks as general knowledge (20_memory R47, log
entry 1), and where it names a reply size 7 on the spec's own resolution of `REPLY_SIZE_SCALAR16` (90_conflicts C1, log
entry 2): such a statement is derived. -/

namespace Sys2Proof.Claims

open Sys2Proof.Machine

/-- A QUERY form at the default parameters completes with the frame `[d, s, c] ++ be16(base + s)` and its reply
length. -/
def QueryRuns (form : Byte → Instr) (d c : Byte) (base : BitVec 16) (expected : Nat) : Prop :=
  ∀ (s : State) (sel : Byte), s.params.hasStandardTable →
    exec (form sel) s = .next (s.deliver (.request ([d, sel, c] ++ be16 (base + sel.setWidth 16)) expected))

/-- "Selected when c = .., for every p?" (a read-only register). -/
def SelectedAlways (form : Byte → Instr) (c : Byte) : Prop :=
  ∀ (k : Params) (sel : Byte) (payload : Option Bytes), k.hasStandardTable →
    select k (.encode c sel payload) = some (form sel)

/-- "Selected when c = .. and the payload is absent or empty" (a writable register). -/
def SelectedWithoutPayload (form : Byte → Instr) (c : Byte) : Prop :=
  ∀ (k : Params) (sel : Byte), k.hasStandardTable →
    select k (.encode c sel none) = some (form sel) ∧ select k (.encode c sel (some [])) = some (form sel)

/-- A SEND form at the default parameters: its frame, when it is selected, the error for every other non-empty length
that can be presented, and the drain that is due once the frame is written, its 7-byte reply read and given to
DECODE. -/
def SendRuns (form : Byte → Byte → Byte → Instr) (c : Byte) (base : BitVec 16) : Prop :=
  (∀ (s : State) (sel p0 p1 : Byte), s.params.hasStandardTable →
    exec (form sel p0 p1) s = .next (s.deliver (.request
      ([0xF1, sel, c, p0, p1] ++ be16 (base + sel.setWidth 16 + p0.setWidth 16 + p1.setWidth 16)) 7)))
  ∧ (∀ (k : Params) (sel p0 p1 : Byte), k.hasStandardTable →
    select k (.encode c sel (some [p0, p1])) = some (form sel p0 p1))
  ∧ (∀ (s : State) (sel : Byte) (p : Bytes) (later : List Call), s.params.hasStandardTable → p ≠ [] → p.length ≠ 2 →
    withinBound s.params.payloadInMax p.length = true → s.calls = .encode c sel (some p) :: later →
    step s = .next ((s.withCalls later).raise .payloadLengthMismatch))
  ∧ ∀ (k : Params) (sel p0 p1 : Byte) (reply : Bytes) (sent : Nat), k.hasStandardTable → reply.length = 7 →
    exchangeAfterDecode c reply (exchangeAfterRead reply
      (exchangeAfterWrite (requestOnLink? k (encode k (form sel p0 p1))) sent .none)) = .drainDue

/-- A REPLY form at the default parameters: the register selects it; a reply of the required length completes with what
stands between its three header and two checksum bytes, whatever those are; every other length fails. -/
def ReplyRuns (form : Bytes → Instr) (c : Byte) (size : Nat) : Prop :=
  (∀ (k : Params) (reply : Bytes), k.hasStandardTable → select k (.decode c reply) = some (form reply))
  ∧ (∀ (s : State) (h0 h1 h2 k0 k1 : Byte) (payload : Bytes), s.params.hasStandardTable →
    s.params.strictReplyChecksum = false → payload.length + 5 = size →
    exec (form (h0 :: h1 :: h2 :: payload ++ [k0, k1])) s = .next (s.deliver (.payload payload)))
  ∧ ∀ (s : State) (reply : Bytes), s.params.hasStandardTable → reply.length ≠ size →
    exec (form reply) s = .next (s.raise .replyLengthMismatch)

/-- A request form the Catalog has: every QUERY form, and a SEND form of a writable register of size class 2. -/
def RequestFits (k : Params) (i : Instr) : Prop :=
  match i.form with
  | .query _ _ => True
  | .send r _ _ _ => (k.entry r).writable = true ∧ (k.entry r).allocatedPayloadSize = 2
  | .reply _ _ => False

/-- The reply length of the register of a form. -/
def formReplySize (k : Params) (i : Instr) : Nat :=
  match i.form with
  | .query r _ => (k.entry r).replyFrameSize
  | .send r _ _ _ => (k.entry r).replyFrameSize
  | .reply r _ => (k.entry r).replyFrameSize

/-- The query frame of a register with its reply length, as ENCODE returns them. -/
def queryOf (k : Params) (r : Reg) (sel : Byte) : Bytes × Nat :=
  (withChecksum [delimiterBits queryType (sizeField k r), sel, k.regCode.get r], (k.entry r).replyFrameSize)

end Sys2Proof.Claims

open Sys2Proof Sys2Proof.Machine Sys2Proof.Claims

/-! ### register_catalog_lookup -/

/-- 40_catalog_lookup R100: LOOKUP answers the entry of the register with that code, and an error for every other
code; the 256 codes are 16 hits and 240 misses, with any admitted `regCode`; the example `LOOKUP(0x02)`. -/
def Obligations.LookupAnswersEntryOrUnknown : Prop :=
  (∀ (s : State) (c : Byte) (r : Reg) (later : List Call), s.params.admitted = true → s.params.regCode.get r = c →
    s.calls = .lookup c :: later →
    step s = .next ((s.withCalls later).deliver (.entry (s.params.catalog.get r))))
  ∧ (∀ (s : State) (c : Byte) (later : List Call), s.params.admitted = true → (∀ r, s.params.regCode.get r ≠ c) →
    s.calls = .lookup c :: later → step s = .next ((s.withCalls later).raise .unknownRegister))
  ∧ (∀ k : Params, k.admitted = true →
    ((List.range 256).filter fun n => (lookup k (BitVec.ofNat 8 n)).toOption.isSome).length = 16)
  ∧ lookup Params.standard 0x02 = .ok ⟨4, 9, false⟩

/-- 40_catalog_lookup section 2: the three fields of the sixteen registers (the six reply sizes 7 are log entry 2). -/
def Obligations.CatalogHoldsTableAtReset : Prop :=
  [State.reset.params.entry .deviceType, State.reset.params.entry .serialNumber,
    State.reset.params.entry .nominalVoltage, State.reset.params.entry .nominalCurrent,
    State.reset.params.entry .nominalPower, State.reset.params.entry .articleNumber,
    State.reset.params.entry .manufacturer, State.reset.params.entry .softwareVersion]
    = [⟨16, 17, false⟩, ⟨16, 16, false⟩, ⟨4, 9, false⟩, ⟨4, 9, false⟩, ⟨4, 9, false⟩, ⟨16, 14, false⟩, ⟨16, 8, false⟩,
      ⟨16, 21, false⟩]
  ∧ [State.reset.params.entry .deviceClass, State.reset.params.entry .ovpThreshold,
    State.reset.params.entry .ocpThreshold, State.reset.params.entry .setValueVoltage,
    State.reset.params.entry .setValueCurrent, State.reset.params.entry .powerSupplyControl,
    State.reset.params.entry .statusActualValues, State.reset.params.entry .statusSetValues]
    = [⟨2, 7, false⟩, ⟨2, 7, true⟩, ⟨2, 7, true⟩, ⟨2, 7, true⟩, ⟨2, 7, true⟩, ⟨2, 7, true⟩, ⟨11, 11, false⟩,
      ⟨11, 11, false⟩]

/-- 40_catalog_lookup section 4: a writable register has size class 2, any other size class is read-only, and
DeviceClass is the one read-only register of size class 2; the symmetric reply size fails for six registers. -/
def Obligations.CatalogLawsOfTheTable : Prop :=
  (∀ r, ((catalogWith 7).get r).writable = true → ((catalogWith 7).get r).allocatedPayloadSize = 2)
  ∧ (∀ r, ((catalogWith 7).get r).allocatedPayloadSize = 2 →
    (((catalogWith 7).get r).writable = false ↔ r = .deviceClass))
  ∧ ∀ r, (((catalogWith 7).get r).replyFrameSize = ((catalogWith 7).get r).allocatedPayloadSize + overhead
    ↔ r ∉ [Reg.deviceType, .serialNumber, .articleNumber, .manufacturer, .statusActualValues, .statusSetValues])

/-- 40_catalog_lookup R101: the three projections are the fields of LOOKUP and fail exactly when it fails. -/
def Obligations.ProjectionsFollowLookup : Prop :=
  ∀ (k : Params) (c : Byte),
    (∀ e, lookup k c = .ok e → allocatedPayloadSize k c = .ok e.allocatedPayloadSize
      ∧ replyFrameSize k c = .ok e.replyFrameSize ∧ writable k c = .ok e.writable)
    ∧ ∀ err, lookup k c = .error err → allocatedPayloadSize k c = .error err ∧ replyFrameSize k c = .error err
      ∧ writable k c = .error err

/-! ### telegram_encoder -/

/-- 30_encoding R76: byte 0 is the sum of the four values, which occupy disjoint bits, so that it never carries and
equals their bitwise OR, the concatenation of the fields. -/
def Obligations.StartDelimiterNeverCarries : Prop :=
  ∀ size, 1 ≤ size → size ≤ 16 →
    (startDelimiter .query size).toNat = 0x40 + 0x20 + 0x10 + (size - 1)
    ∧ (startDelimiter .write size).toNat = 0xC0 + 0x20 + 0x10 + (size - 1)
    ∧ startDelimiter .query size = 0x40 ||| 0x20 ||| 0x10 ||| BitVec.ofNat 8 (size - 1)
    ∧ startDelimiter .write size = 0xC0 ||| 0x20 ||| 0x10 ||| BitVec.ofNat 8 (size - 1)
    ∧ startDelimiter .query size = delimiterBits queryType (BitVec.ofNat 4 (size - 1))
    ∧ startDelimiter .write size = delimiterBits sendType (BitVec.ofNat 4 (size - 1))

/-- 41_telegram_encoder R132 and R133: the write-eligibility gate's truth table, row by row, with the frame each row
gives; a wrong length is an error only for a writable register and a non-empty payload. -/
def Obligations.WriteGateTruthTable : Prop :=
  ∀ (k : Params) (r : Reg) (sel : Byte), k.admitted = true →
    ((k.entry r).writable = false →
      ∀ payload, encodeRequest k (k.regCode.get r) sel payload = .ok (queryOf k r sel))
    ∧ encodeRequest k (k.regCode.get r) sel none = .ok (queryOf k r sel)
    ∧ encodeRequest k (k.regCode.get r) sel (some []) = .ok (queryOf k r sel)
    ∧ ((k.entry r).writable = true → ∀ p, p ≠ [] →
      (p.length = (k.entry r).allocatedPayloadSize →
        encodeRequest k (k.regCode.get r) sel (some p)
          = .ok (withChecksum (delimiterBits sendType (sizeField k r) :: sel :: k.regCode.get r :: p),
            (k.entry r).replyFrameSize))
      ∧ (p.length ≠ (k.entry r).allocatedPayloadSize →
        encodeRequest k (k.regCode.get r) sel (some p) = .error .payloadLengthMismatch))

/-- 41_telegram_encoder R137, 30_encoding R81: the last two bytes of every frame are the sum modulo 65536 of all bytes
before them, high byte first. -/
def Obligations.ChecksumIsSumOfEarlierBytes : Prop :=
  ∀ (k : Params) (c sel : Byte) (payload : Option Bytes) (frame : Bytes) (expected : Nat),
    encodeRequest k c sel payload = .ok (frame, expected) →
    5 ≤ frame.length
    ∧ frame.drop (frame.length - 2) = be16 (BitVec.ofNat 16 (byteSum (frame.take (frame.length - 2)) % 65536))
    ∧ unbe16 (frame.drop (frame.length - 2)) = byteSum (frame.take (frame.length - 2)) % 65536

/-- 41_telegram_encoder section 3 and 30_encoding section 1: a successful frame has 5 bytes or 5 + size class, the
length byte 0 gives; its cast and direction bits are 1; bytes 1 and 2 are the selector and the code; it carries the
payload exactly when its message type is Send; the second output is the register's reply size. -/
def Obligations.FrameShape : Prop :=
  ∀ (k : Params) (c sel : Byte) (payload : Option Bytes) (frame : Bytes) (expected : Nat), k.admitted = true →
    encodeRequest k c sel payload = .ok (frame, expected) →
    ∃ d body sum, frame = d :: sel :: c :: body ++ be16 sum
      ∧ castType d = 1 ∧ direction d = 1 ∧ requestLength? d = some frame.length
      ∧ replyFrameSize k c = .ok expected
      ∧ ((messageType d = queryType ∧ body = [] ∧ frame.length = 5)
        ∨ (messageType d = sendType ∧ body ≠ [] ∧ payload = some body ∧ writable k c = .ok true
          ∧ allocatedPayloadSize k c = .ok body.length))

/-- 41_telegram_encoder section 3: a frame determines the code, the selector and the payload it carries, so two
encodings in one mode are equal only when their inputs are. -/
def Obligations.FrameDeterminesInputs : Prop :=
  ∀ (k : Params) (c c' sel sel' : Byte) (p p' : Option Bytes) (frame : Bytes) (n n' : Nat), k.admitted = true →
    encodeRequest k c sel p = .ok (frame, n) → encodeRequest k c' sel' p' = .ok (frame, n') →
    c = c' ∧ sel = sel' ∧ n = n' ∧ (messageType (frame.headD 0) = sendType → p = p')

/-- 30_encoding section 2 and section 5: at the default table only five start delimiters exist, and the Send delimiter
is for one of the five writable registers only (the codes are log entry 1). -/
def Obligations.OnlyFiveStartDelimiters : Prop :=
  ∀ (k : Params) (c sel : Byte) (payload : Option Bytes) (frame : Bytes) (expected : Nat), k.hasStandardTable →
    encodeRequest k c sel payload = .ok (frame, expected) →
    frame.headD 0 ∈ [(0x7F : Byte), 0x73, 0x71, 0x7A, 0xF1]
    ∧ (frame.headD 0 = 0xF1 → c ∈ [(0x26 : Byte), 0x27, 0x32, 0x33, 0x36])
    ∧ (frame.headD 0 ≠ 0xF1 → frame.length = 5) ∧ (frame.headD 0 = 0xF1 → frame.length = 7)

/-- 30_encoding section 3: the summed part has at most 19 bytes, so the sum never reaches 65536; at the default table
it is at most 0x04ED. -/
def Obligations.ChecksumNeverWraps : Prop :=
  ∀ (k : Params) (c sel : Byte) (payload : Option Bytes) (frame : Bytes) (expected : Nat), k.admitted = true →
    encodeRequest k c sel payload = .ok (frame, expected) →
    frame.length ≤ 21 ∧ byteSum (frame.take (frame.length - 2)) ≤ 4845
    ∧ (k.hasStandardTable → byteSum (frame.take (frame.length - 2)) ≤ 0x04ED)

/-- 41_telegram_encoder R142, with the code and the numbers the source itself gives: the form completes with
`73 s 02` and the checksum `be16(0x75 + s)`, reply length 9, and is selected for every payload. -/
def Obligations.QueryNominalVoltageCompletes : Prop :=
  ∀ (s : State) (sel : Byte), s.params.admitted = true → s.params.entry .nominalVoltage = ⟨4, 9, false⟩ →
    exec (.queryNominalVoltage sel) s
      = .next (s.deliver (.request ([0x73, sel, 0x02] ++ be16 (0x75 + sel.setWidth 16)) 9))
    ∧ (∀ payload, select s.params (.encode 0x02 sel payload) = some (.queryNominalVoltage sel))
    ∧ ([0x73, 0x00, 0x02] ++ be16 (0x75 + (0x00 : Byte).setWidth 16) : Bytes) = [0x73, 0x00, 0x02, 0x00, 0x75]

/-- 41_telegram_encoder section 4, the five identification strings (codes: log entry 1). -/
def Obligations.QueryStringFormsComplete : Prop :=
  QueryRuns .queryDeviceType 0x7F 0x00 0x7F 17 ∧ SelectedAlways .queryDeviceType 0x00
  ∧ QueryRuns .querySerialNumber 0x7F 0x01 0x80 16 ∧ SelectedAlways .querySerialNumber 0x01
  ∧ QueryRuns .queryArticleNumber 0x7F 0x06 0x85 14 ∧ SelectedAlways .queryArticleNumber 0x06
  ∧ QueryRuns .queryManufacturer 0x7F 0x08 0x87 8 ∧ SelectedAlways .queryManufacturer 0x08
  ∧ QueryRuns .querySoftwareVersion 0x7F 0x09 0x88 21 ∧ SelectedAlways .querySoftwareVersion 0x09

/-- 41_telegram_encoder section 4, the three nominal ratings (codes: log entry 1). -/
def Obligations.QueryRatingFormsComplete : Prop :=
  QueryRuns .queryNominalVoltage 0x73 0x02 0x75 9 ∧ SelectedAlways .queryNominalVoltage 0x02
  ∧ QueryRuns .queryNominalCurrent 0x73 0x03 0x76 9 ∧ SelectedAlways .queryNominalCurrent 0x03
  ∧ QueryRuns .queryNominalPower 0x73 0x04 0x77 9 ∧ SelectedAlways .queryNominalPower 0x04

/-- 41_telegram_encoder section 4, the six 2-byte scalars (codes: log entry 1; reply size 7: log entry 2). -/
def Obligations.QueryScalarFormsComplete : Prop :=
  QueryRuns .queryDeviceClass 0x71 0x13 0x84 7 ∧ SelectedAlways .queryDeviceClass 0x13
  ∧ QueryRuns .queryOvpThreshold 0x71 0x26 0x97 7 ∧ SelectedWithoutPayload .queryOvpThreshold 0x26
  ∧ QueryRuns .queryOcpThreshold 0x71 0x27 0x98 7 ∧ SelectedWithoutPayload .queryOcpThreshold 0x27
  ∧ QueryRuns .querySetValueVoltage 0x71 0x32 0xA3 7 ∧ SelectedWithoutPayload .querySetValueVoltage 0x32
  ∧ QueryRuns .querySetValueCurrent 0x71 0x33 0xA4 7 ∧ SelectedWithoutPayload .querySetValueCurrent 0x33
  ∧ QueryRuns .queryPowerSupplyControl 0x71 0x36 0xA7 7 ∧ SelectedWithoutPayload .queryPowerSupplyControl 0x36

/-- 41_telegram_encoder section 4, the two status registers (codes: log entry 1). -/
def Obligations.QueryStatusFormsComplete : Prop :=
  QueryRuns .queryStatusActualValues 0x7A 0x47 0xC1 11 ∧ SelectedAlways .queryStatusActualValues 0x47
  ∧ QueryRuns .queryStatusSetValues 0x7A 0x48 0xC2 11 ∧ SelectedAlways .queryStatusSetValues 0x48

/-- 41_telegram_encoder section 5, the five SEND forms (codes: log entry 1; reply size 7: log entry 2). -/
def Obligations.SendFormsComplete : Prop :=
  SendRuns .sendOvpThreshold 0x26 0x117 ∧ SendRuns .sendOcpThreshold 0x27 0x118
  ∧ SendRuns .sendSetValueVoltage 0x32 0x123 ∧ SendRuns .sendSetValueCurrent 0x33 0x124
  ∧ SendRuns .sendPowerSupplyControl 0x36 0x127

/-! ### telegram_decoder -/

/-- 42_telegram_decoder section 4, the five identification strings (codes: log entry 1). -/
def Obligations.ReplyStringFormsComplete : Prop :=
  ReplyRuns .replyDeviceType 0x00 17 ∧ ReplyRuns .replySerialNumber 0x01 16 ∧ ReplyRuns .replyArticleNumber 0x06 14
  ∧ ReplyRuns .replyManufacturer 0x08 8 ∧ ReplyRuns .replySoftwareVersion 0x09 21

/-- 42_telegram_decoder section 4, the three nominal ratings (codes: log entry 1). -/
def Obligations.ReplyRatingFormsComplete : Prop :=
  ReplyRuns .replyNominalVoltage 0x02 9 ∧ ReplyRuns .replyNominalCurrent 0x03 9 ∧ ReplyRuns .replyNominalPower 0x04 9

/-- 42_telegram_decoder section 4, the six 2-byte scalars (codes: log entry 1; size 7: log entry 2). -/
def Obligations.ReplyScalarFormsComplete : Prop :=
  ReplyRuns .replyDeviceClass 0x13 7 ∧ ReplyRuns .replyOvpThreshold 0x26 7 ∧ ReplyRuns .replyOcpThreshold 0x27 7
  ∧ ReplyRuns .replySetValueVoltage 0x32 7 ∧ ReplyRuns .replySetValueCurrent 0x33 7
  ∧ ReplyRuns .replyPowerSupplyControl 0x36 7

/-- 42_telegram_decoder section 4, the two status registers (codes: log entry 1). -/
def Obligations.ReplyStatusFormsComplete : Prop :=
  ReplyRuns .replyStatusActualValues 0x47 11 ∧ ReplyRuns .replyStatusSetValues 0x48 11

/-- 42_telegram_decoder R182 and R183, without strict mode: any length but the register's reply size is an error,
shorter and longer alike; a reply of the right length gives `reply[3 .. L-2)` whatever its five framing bytes are. -/
def Obligations.ReplyTakenVerbatimByLength : Prop :=
  ∀ (s : State) (r : Reg) (reply : Bytes), s.params.admitted = true → s.params.strictReplyChecksum = false →
    (reply.length ≠ (s.params.entry r).replyFrameSize →
      exec (Instr.reply r reply) s = .next (s.raise .replyLengthMismatch))
    ∧ (reply.length = (s.params.entry r).replyFrameSize → 5 ≤ reply.length →
      exec (Instr.reply r reply) s = .next (s.deliver (.payload ((reply.take (reply.length - 2)).drop 3)))
      ∧ ∀ h0 h1 h2 payload k0 k1, reply = h0 :: h1 :: h2 :: payload ++ [k0, k1] →
        exec (Instr.reply r reply) s = .next (s.deliver (.payload payload)))

/-- 42_telegram_decoder section 3: DECODE succeeds exactly on a listed code with a reply of its size (5 or more); the
payload is 5 bytes shorter and byte `i` of it is byte `3 + i` of the reply; framing bytes do not matter. -/
def Obligations.DecodeLaws : Prop :=
  ∀ (k : Params) (c : Byte) (reply : Bytes), k.strictReplyChecksum = false →
    ((∃ payload, decodeReply k c reply = .ok payload)
      ↔ ∃ r, k.regOf? c = some r ∧ reply.length = (k.entry r).replyFrameSize ∧ 5 ≤ reply.length)
    ∧ (∀ payload, decodeReply k c reply = .ok payload →
      payload.length + 5 = reply.length ∧ ∀ i, i < payload.length → payload[i]? = reply[3 + i]?)
    ∧ ∀ other : Bytes, other.length = reply.length →
      (other.take (other.length - 2)).drop 3 = (reply.take (reply.length - 2)).drop 3 →
      decodeReply k c other = decodeReply k c reply

/-- 42_telegram_decoder R188: encoding a query and decoding any reply of the expected length returns the middle slice,
5 bytes shorter, which covers all sixteen registers at reply size 7 and fails for six at the literal 2; DECODE is no
inverse of ENCODE: a frame fed back succeeds only where its length is the register's reply size, and a 7-byte SEND frame
then gives its own two payload bytes. -/
def Obligations.EncodeThenDecodeRoundTrip : Prop :=
  (∀ (k : Params) (c sel : Byte) (frame : Bytes) (expected : Nat), k.strictReplyChecksum = false →
    encodeRequest k c sel none = .ok (frame, expected) → 5 ≤ expected →
    ∀ reply : Bytes, reply.length = expected →
      decodeReply k c reply = .ok ((reply.take (expected - 2)).drop 3)
      ∧ ((reply.take (expected - 2)).drop 3).length + 5 = expected)
  ∧ (∀ r, 5 ≤ ((catalogWith 7).get r).replyFrameSize)
  ∧ (∀ r, ((catalogWith 2).get r).replyFrameSize < 5 ↔ r.isScalar16 = true)
  ∧ (∀ (k : Params) (c sel : Byte) (payload : Option Bytes) (frame : Bytes) (expected : Nat),
    k.strictReplyChecksum = false → encodeRequest k c sel payload = .ok (frame, expected) →
    ((∃ body, decodeReply k c frame = .ok body) ↔ frame.length = expected))
  ∧ ∀ (k : Params) (c sel p0 p1 : Byte) (frame : Bytes), k.strictReplyChecksum = false →
    encodeRequest k c sel (some [p0, p1]) = .ok (frame, 7) → frame.length = 7 →
    decodeReply k c frame = .ok [p0, p1]

/-- 42_telegram_decoder, the deliberate instantiation of the literal 2 (log entry 2): the Catalog is admitted, a reply
size below 5 is admitted in no other, and a register with one decodes no reply at all. -/
def Obligations.TooShortReplySizeDecodesNothing : Prop :=
  { Params.standard with catalog := catalogWith 2 }.admitted = true
  ∧ (∀ (k : Params) (r : Reg), k.admitted = true → (k.entry r).replyFrameSize < 5 →
    r.isScalar16 = true ∧ ∀ q : Reg, q.isScalar16 = true → (k.entry q).replyFrameSize = 2)
  ∧ ∀ (s : State) (r : Reg) (reply : Bytes), s.params.admitted = true → (s.params.entry r).replyFrameSize < 5 →
    exec (Instr.reply r reply) s = .next (s.raise .replyLengthMismatch)

/-- 42_telegram_decoder, strict mode (a choice of the spec, 92_eei_decisions D11): a reply of the right length passes
exactly when its last two bytes are the sum of the others modulo 65536. -/
def Obligations.StrictModeChecksTheSum : Prop :=
  ∀ (s : State) (r : Reg) (reply : Bytes), s.params.admitted = true → s.params.strictReplyChecksum = true →
    reply.length = (s.params.entry r).replyFrameSize → 5 ≤ reply.length →
    (unbe16 (reply.drop (reply.length - 2)) = byteSum (reply.take (reply.length - 2)) % 65536 →
      exec (Instr.reply r reply) s = .next (s.deliver (.payload ((reply.take (reply.length - 2)).drop 3))))
    ∧ (unbe16 (reply.drop (reply.length - 2)) ≠ byteSum (reply.take (reply.length - 2)) % 65536 →
      exec (Instr.reply r reply) s = .next (s.raise .replyChecksumMismatch))

/-- 70_reset_and_hazards section 4: another register of the same reply size decodes to the same bytes; one of another
size fails. -/
def Obligations.WrongRegisterSameSizePasses : Prop :=
  ∀ (s : State) (r r' : Reg) (reply : Bytes), s.params.admitted = true →
    reply.length = (s.params.entry r).replyFrameSize →
    ((s.params.entry r').replyFrameSize = (s.params.entry r).replyFrameSize →
      exec (Instr.reply r' reply) s = exec (Instr.reply r reply) s)
    ∧ ((s.params.entry r').replyFrameSize ≠ (s.params.entry r).replyFrameSize →
      exec (Instr.reply r' reply) s = .next (s.raise .replyLengthMismatch))

/-! ### Every form -/

/-- 41_telegram_encoder R131, 42_telegram_decoder R181: ENCODE and DECODE look the register up before anything else; an
unlisted code is reported whatever the selector, the payload or the reply is. -/
def Obligations.UnknownRegisterComesFirst : Prop :=
  ∀ (s : State) (c sel : Byte) (payload : Option Bytes) (reply : Bytes) (later : List Call),
    s.params.admitted = true → (∀ r, s.params.regCode.get r ≠ c) →
    (presentable s.params (.encode c sel payload) = true → s.calls = .encode c sel payload :: later →
      step s = .next ((s.withCalls later).raise .unknownRegister))
    ∧ (presentable s.params (.decode c reply) = true → s.calls = .decode c reply :: later →
      step s = .next (((s.withCalls later).noted (.decode c reply)).raise .unknownRegister))

/-- 10_state section 1 and 60_exceptions section 1: a form, whether it succeeds or raises an error, changes the outputs
and nothing else: not the Catalog, the link, the exchange, the bytes sent, arrived or to come, nor the caller's
invocations. -/
def Obligations.FormsChangeOnlyTheResult : Prop :=
  ∀ (i : Instr) (s t : State), exec i s = .next t →
    t.params = s.params ∧ t.link = s.link ∧ t.exchange = s.exchange ∧ t.rx = s.rx ∧ t.tx = s.tx ∧ t.wire = s.wire
    ∧ t.answers = s.answers ∧ t.writeFates = s.writeFates ∧ t.calls = s.calls ∧ t.result ≠ none

/-- 10_state section 2: a form runs to a next state with a result exactly on an admitted Catalog, and is refused on any
other. That a model refuses ill-formed entries and a `regCode` that is not injective is a decision of the spec
(92_eei_decisions D12). That it is every unit that refuses, and that the code 0x02, `Output1` among the selectors and
the input bounds are asked for as well, is the model's choice (DESIGN CHOICE, log entry 12; for the reply bound DEDUCED,
log entry 11). -/
def Obligations.FormsNeedAnAdmittedCatalog : Prop :=
  ∀ (i : Instr) (s : State),
    (s.params.admitted = true → ∃ r, exec i s = .next (s.deliver r))
    ∧ (s.params.admitted = false → exec i s = .refused .catalogNotAdmitted)

/-- 10_state section 1: the units are pure. What a form returns depends on its operands, the Catalog and the
parameters, and on nothing an earlier operation or the environment left. -/
def Obligations.ResultsIgnoreHistory : Prop :=
  ∀ (i : Instr) (s s' t t' : State), s.params = s'.params → exec i s = .next t → exec i s' = .next t' →
    t.result = t'.result

/-- 60_exceptions section 1: a unit never reports TransportError (code 4), reports a checksum mismatch (code 5) only in
strict mode, and ENC reports no reply error, DEC no payload error. -/
def Obligations.FormsReportTheirOwnErrors : Prop :=
  ∀ (i : Instr) (s t : State) (r : Result), exec i s = .next t → t.result = some r →
    statusCode r ∈ [0, 1, 2, 3, 5]
    ∧ (statusCode r = 5 → s.params.strictReplyChecksum = true)
    ∧ (∀ reg reply, i.form = .reply reg reply → statusCode r ∈ [0, 3, 5])
    ∧ ((∀ reg reply, i.form ≠ .reply reg reply) → statusCode r ∈ [0, 2])

/-! ### Encoding -/

/-- 41_telegram_encoder and 30_encoding: the datapath of ENC, by addition and byte sum, emits exactly the wire form that
the tables of formats lay out field by field, with the register's reply length. -/
def Obligations.EncoderEmitsTheWireForm : Prop :=
  ∀ (i : Instr) (s : State), s.params.admitted = true → RequestFits s.params i →
    exec i s = .next (s.deliver (.request (encode s.params i) (formReplySize s.params i)))

/-- 30_encoding section 4: decoding the wire form of a request, whatever follows it, gives the form back with every
operand, for every admitted Catalog. -/
def Obligations.DecodeInvertsEncode : Prop :=
  ∀ (k : Params) (i : Instr) (rest : Bytes), k.admitted = true → RequestFits k i →
    decode k (encode k i ++ rest) = .ok (i, rest)

/-- 30_encoding section 4: at the default table every well-formed instruction is read back from its wire bytes, a
request from the bytes alone, a reply from the bytes and its register. -/
def Obligations.EveryFormReadBack : Prop :=
  ∀ i : Instr, i.wellFormed = true →
    match i.form with
    | .reply r _ => decodeReplyForm Params.standard (Params.standard.regCode.get r) (encode Params.standard i) = some i
    | .query _ _ => decode Params.standard (encode Params.standard i) = .ok (i, [])
    | .send _ _ _ _ => decode Params.standard (encode Params.standard i) = .ok (i, [])

/-- 30_encoding section 4: where bytes decode to a form and their last two are the right checksum, they are the wire
form of it: each request has one encoding. -/
def Obligations.EncodeInvertsDecode : Prop :=
  ∀ (k : Params) (bytes rest : Bytes) (i : Instr), k.admitted = true → decode k (bytes ++ rest) = .ok (i, rest) →
    bytes.drop (bytes.length - 2) = be16 (checksum (bytes.take (bytes.length - 2))) → encode k i = bytes

/-- 30_encoding section 5: bytes whose start delimiter has another message type, cast type 0 or direction 0, or whose
code is unlisted, are no form of the table. That they are presented as wire bytes, and refused then, is the model's own
choice (Call.wireForm, log entry 8): a unit given an unlisted code answers UnknownRegisterError. -/
def Obligations.ReservedTelegramsRefused : Prop :=
  ∀ (s : State) (d sel c : Byte) (rest : Bytes) (later : List Call),
    s.calls = .wireForm (d :: sel :: c :: rest) :: later →
    ((messageType d = 0 ∨ messageType d = 2) ∨ castType d = 0 ∨ direction d = 0
      ∨ ∀ r, s.params.regCode.get r ≠ c) →
    ∃ why, step s = .refused (.illegalTelegram why)

/-- 30_encoding section 4: words written out from the table, at the default codes (log entry 1), are the instructions
they stand for, and a word that matches no request row is none (log entry 7). -/
def Obligations.TableWordsDecode : Prop :=
  decodeTableWord 24 0x730002 = some (.queryNominalVoltage 0x00)
  ∧ decodeTableWord 24 0x7FFF09 = some (.querySoftwareVersion 0xFF)
  ∧ decodeTableWord 24 0x7A0148 = some (.queryStatusSetValues 0x01)
  ∧ decodeTableWord 24 0xF10132 = some (.sendSetValueVoltage 0x01 0x00 0x00)
  ∧ decodeTableWord 56 0xF1013664B70000 = some (.sendPowerSupplyControl 0x01 0x64 0xB7)
  ∧ decodeTableWord 24 0xF10013 = none ∧ decodeTableWord 24 0x730005 = none ∧ decodeTableWord 24 0x000000 = none

/-! ### Steps -/

/-- A step runs the form the caller's next invocation selects: the bytes of a request (the model's own way, log entry
8), ENCODE's inputs, or the register and the reply given to DECODE. The invocation is taken off the list first; DECODE
moves the caller's exchange on, every other invocation leaves it to the operation. -/
def Obligations.StepRunsTheSelectedForm : Prop :=
  ∀ (s : State) (later : List Call) (i : Instr),
    (∀ call, s.calls = call :: later → presentable s.params call = true → select s.params call = some i →
      step s = exec i ((s.withCalls later).noted call))
    ∧ (∀ bytes rest, s.calls = .wireForm bytes :: later → decode s.params bytes = .ok (i, rest) →
      step s = exec i (s.withCalls later))
    ∧ (∀ c reply, s.calls = .decode c reply :: later → withinBound s.params.replyInMax reply.length = true →
      decodeReplyForm s.params c reply = some i →
      step s = exec i ((s.withCalls later).withExchange (exchangeAfterDecode c reply s.exchange)))
    ∧ ∀ call, (∀ c reply, call ≠ .decode c reply) → s.noted call = s

/-- Running an invocation through the telegram form it selects is the same as running the unit on its inputs: where a
"Selected when" clause of 41_telegram_encoder or 42_telegram_decoder picks a form, it picks the right one. Which
invocations select a form is said form by form (QueryStringFormsComplete to ReplyStatusFormsComplete). -/
def Obligations.StepIsTheUnitOperation : Prop :=
  ∀ (s : State) (call : Call) (later : List Call), s.calls = call :: later → presentable s.params call = true →
    step s = runCall call ((s.withCalls later).noted call)

/-- 92_eei_decisions D2: a sequence beyond `PAYLOAD_IN_MAX` or `REPLY_IN_MAX` cannot be presented. What the Catalog
calls for can be. What is lost so would have failed: DECODE of the reply, ENCODE of the payload for a writable register
or an unlisted code. One loss D2 does not mention (log entry 11): ENCODE of such a payload for a read-only register is a
successful query (41_telegram_encoder R132). Without bounds everything can be presented. -/
def Obligations.InputBoundsRefuseLongInputs : Prop :=
  (∀ (s : State) (call : Call) (later : List Call), s.calls = call :: later → presentable s.params call = false →
    step s = .refused .inputNotPresentable)
  ∧ (∀ (k : Params) (c sel : Byte) (payload reply : Bytes), k.admitted = true →
    (presentable k (.decode c reply) = false → ∃ e, decodeReply k c reply = .error e)
    ∧ (presentable k (.encode c sel (some payload)) = false →
      (k.regOf? c = none → encodeRequest k c sel (some payload) = .error .unknownRegister)
      ∧ ∀ r, k.regOf? c = some r →
        ((k.entry r).writable = true → encodeRequest k c sel (some payload) = .error .payloadLengthMismatch)
        ∧ ((k.entry r).writable = false → encodeRequest k c sel (some payload) = .ok (queryOf k r sel)))
    ∧ (∀ r, reply.length = (k.entry r).replyFrameSize → presentable k (.decode c reply) = true)
    ∧ ∀ r, payload.length = (k.entry r).allocatedPayloadSize → presentable k (.encode c sel (some payload)) = true)
  ∧ ∀ (k : Params) (call : Call), k.payloadInMax = none → k.replyInMax = none → presentable k call = true

/-- 10_state section 1: the CORE never acts on its own; without an invocation there is no step, and a step takes exactly
one invocation. -/
def Obligations.NoStepWithoutInvocation : Prop :=
  ∀ s t : State, (s.calls = [] → step s = .refused .noInvocation)
    ∧ (step s = .next t → ∃ call, s.calls = call :: t.calls)

/-- 10_state section 2 and 20_memory section 5: the Catalog is read-only; no step of any kind changes it or a
parameter. -/
def Obligations.CatalogIsReadOnly : Prop :=
  ∀ s t : State, step s = .next t → t.params = s.params

/-- 10_state section 6: what reset leaves. The Catalog and the parameters are the spec's; no output has a value; that
the environment is at rest and in step is the model's choice (log entries 4, 5, 6). -/
def Obligations.ResetLeavesTableAndNoOutput : Prop :=
  State.reset.params = ⟨defaultRegCode, catalogWith 7, [0x00], false, none, none, .exact⟩ ∧ State.reset.result = none
  ∧ State.reset.ready ∧ State.reset.calls = [] ∧ State.reset.Inv ∧ State.reset.inStep

/-- Every step keeps the invariant: the Catalog stays admitted, a frame among the outputs is a request of the Catalog
with its reply length, an entry is one of its entries, a payload has a reply's payload length, and the request of the
exchange under way is some register's, with the expected number of bytes once its reply is read. -/
def Obligations.StepKeepsInvariant : Prop :=
  ∀ s t : State, s.Inv → step s = .next t → t.Inv

/-- 70_reset_and_hazards section 4: "the link is desynchronized for all future calls": no step ever takes the link out
of that condition. -/
def Obligations.DesynchronisedForever : Prop :=
  ∀ s t : State, s.link = .desynchronised → step s = .next t → t.link = .desynchronised

/-- 70_reset_and_hazards section 5: a caller that keeps its duties, over a transport that does not fail and a device
that sends exactly what is expected and in time (the named premise of R277 and R284, log entry 19), stays in step with
the device through every stage of an exchange, and never waits without end. Where the rules leave the state of the link
to inference the model's reading is log entry 9; that a drain at another time keeps the link is the model's choice (log
entry 18), which 91_not_in_source N11 says not to assume. -/
def Obligations.DutifulCallerKeepsTheLink : Prop :=
  ∀ (s : State) (call : Call) (later : List Call), s.params.admitted = true → s.inStep → s.calls = call :: later →
    respectsDuties s call = true → deviceKeepsContract s call = true →
    (∀ f, step s ≠ .fault f) ∧ ∀ t, step s = .next t → t.link = .synchronised ∧ t.inStep

/-- 70_reset_and_hazards section 4 and 10_state section 5: what loses the link. A read of another number of bytes than
expected, or than the device sends in reply, and a reply to a query that is not read in full, are R277 and R34. The
others are the model's inference (DEDUCED, log entry 9, unsafe for a claim that the link is lost): a second request
while a reply is awaited, a write while an acknowledgement or other bytes are unread or still to come, bytes that are no
request, a read with no reply awaited. -/
def Obligations.BreachLosesTheLink : Prop :=
  ∀ (s t : State) (later : List Call), step s = .next t →
    (∀ n r sent, s.calls = .read n :: later → s.exchange = .written r sent → 0 < n →
      (n ≠ r.expected ∨ sent ≠ r.expected ∨ (r.isSend = false ∧ t.quiet = false)) → t.link = .desynchronised)
    ∧ (∀ bytes, s.calls = .write bytes :: later →
      (s.exchange.awaitsReply = true ∨ s.quiet = false ∨ requestOnLink? s.params bytes = none) →
      t.link = .desynchronised)
    ∧ ∀ n, s.calls = .read n :: later → s.exchange.awaitsReply = false → 0 < n → t.link = .desynchronised

/-- 70_reset_and_hazards R275: `readExactly(n)` returns exactly `n` bytes in arrival order, the oldest first, and leaves
the rest unread and to come; `write` sends the bytes in order after those sent before, and the device's next answer is
on its way; `discardPendingInput` throws away what has arrived and was not read, and nothing that is still to come. -/
def Obligations.TransportPrimitives : Prop :=
  ∀ (s t : State) (later : List Call), step s = .next t →
    (∀ n bytes, s.calls = .read n :: later → t.result = some (.received bytes) →
      bytes.length = n ∧ bytes ++ t.rx ++ arrivals t.wire = s.rx ++ arrivals s.wire ∧ t.tx = s.tx)
    ∧ (∀ bytes, s.calls = .write bytes :: later → t.result = some .sent →
      t.tx = s.tx ++ bytes ∧ t.rx = s.rx ∧ t.wire = s.wire ++ s.nextAnswer.reply ++ s.nextAnswer.ack
      ∧ t.answers = s.answers.tail)
    ∧ (s.calls = .drain :: later → t.result = some .drained ∧ t.rx = []
      ∧ arrivedByNow s.wire ++ arrivals t.wire = arrivals s.wire ∧ (prompt s.wire = true → t.wire = []) ∧ t.tx = s.tx)
    ∧ (s.calls = .receive :: later → t.rx ++ arrivals t.wire = s.rx ++ arrivals s.wire ∧ t.tx = s.tx)

/-- 60_exceptions section 1 and 70_reset_and_hazards sections 4 and 5: a primitive or an exchange that ends in
TransportError leaves the link desynchronised. A query is over then; a write-mode exchange ends by its drain, which is
due. That a failed write has begun the exchange of its request, and that a failed step ends the sequence of MemWrite
before its drain, is the model's inference (DEDUCED, log entry 9). -/
def Obligations.TransportErrorLosesTheLink : Prop :=
  ∀ (s t : State) (call : Call) (later : List Call), s.calls = call :: later →
    ((∃ bytes, call = .write bytes) ∨ (∃ n, call = .read n) ∨ (∃ sel c, call = .memRead sel c)
      ∨ ∃ sel c v b, call = .memWrite sel c v b) →
    step s = .next t → t.result = some (.error .transport) →
    t.link = .desynchronised ∧ (t.exchange = .none ∨ t.exchange = .drainDue)
    ∧ (∀ r, requestWritten? s.params call = some r → t.exchange = if r.isSend then .drainDue else .none)
    ∧ ∀ n r sent, call = .read n → s.exchange = .written r sent →
      t.exchange = if r.isSend then .drainDue else .none

/-- 70_reset_and_hazards section 5: an operation of the block cannot hang; only a read, by itself or inside an exchange,
ever waits without end. -/
def Obligations.OnlyReadsCanHang : Prop :=
  ∀ (s : State) (f : Fault), step s = .fault f → f = .readBlocked
    ∧ ∃ call later, s.calls = call :: later
      ∧ ((∃ n, call = .read n) ∨ (∃ sel c, call = .memRead sel c) ∨ ∃ sel c v b, call = .memWrite sel c v b)

/-- 20_memory R64: a complete query exchange in step with the device, which sends exactly the expected number of bytes,
in one piece or in several (the named premise of 70_reset_and_hazards R277, log entry 19): it sends the query frame, its
result is what DECODE answers for those bytes, the payload unless strict mode says otherwise, and everything is ready
for the next exchange. -/
def Obligations.MemReadExchange : Prop :=
  ∀ (s : State) (sel : Byte) (r : Reg) (later : List Call), s.params.admitted = true → s.ready →
    s.writeFates.all (· == none) = true → faultFree (s.wire ++ s.nextAnswer.reply) = true →
    s.nextAnswer.exact ⟨s.params.regCode.get r, (s.params.entry r).replyFrameSize, false⟩ = true →
    s.calls = .memRead sel (s.params.regCode.get r) :: later →
    ∃ t, step s = .next t
      ∧ t.result = some (decodeResult s.params (s.params.regCode.get r) (arrivals s.nextAnswer.reply))
      ∧ (s.params.strictReplyChecksum = false → 5 ≤ (s.params.entry r).replyFrameSize → t.result = some (.payload
        (((arrivals s.nextAnswer.reply).take ((s.params.entry r).replyFrameSize - 2)).drop 3)))
      ∧ t.tx = s.tx ++ encode s.params (Instr.query r sel) ∧ t.ready ∧ t.answers = s.answers.tail ∧ t.calls = later
      ∧ t.params = s.params

/-- 20_memory R65: a complete write-mode exchange in step with the device, which sends exactly the expected reply and an
acknowledgement besides, in pieces of any size (the named premise of 70_reset_and_hazards R277 and R284, log entry 19):
it sends the Send frame, reads the reply, gives it to DECODE and, if DECODE returns a payload, drains. With the whole
acknowledgement arrived when the drain runs, everything is ready for the next exchange; what arrives later stays to come
(R278, 91_not_in_source N8), and BreachLosesTheLink says what a write then does. If DECODE fails (strict mode, or a
reply size below 5) the sequence ends before its drain (DEDUCED, log entry 9), which is then due (R285). -/
def Obligations.MemWriteExchange : Prop :=
  ∀ (s : State) (sel : Byte) (r : Reg) (v : Bytes) (b : Bool) (later : List Call), s.params.admitted = true → s.ready →
    s.writeFates.all (· == none) = true → faultFree (s.wire ++ s.nextAnswer.reply) = true →
    s.nextAnswer.exact ⟨s.params.regCode.get r, (s.params.entry r).replyFrameSize, true⟩ = true →
    (s.params.entry r).writable = true → v ≠ [] → v.length = (s.params.entry r).allocatedPayloadSize →
    s.calls = .memWrite sel (s.params.regCode.get r) v b :: later →
    ∃ t, step s = .next t
      ∧ t.result = some (decodeResult s.params (s.params.regCode.get r) (arrivals s.nextAnswer.reply))
      ∧ (s.params.strictReplyChecksum = false → 5 ≤ (s.params.entry r).replyFrameSize → t.result = some (.payload
        (((arrivals s.nextAnswer.reply).take ((s.params.entry r).replyFrameSize - 2)).drop 3)))
      ∧ t.tx = s.tx ++ withChecksum (delimiterBits sendType (sizeField s.params r) :: sel :: s.params.regCode.get r :: v)
      ∧ t.link = .synchronised ∧ t.rx = []
      ∧ ((∃ p, t.result = some (.payload p)) → t.exchange = .none
        ∧ (prompt (s.wire ++ s.nextAnswer.reply ++ s.nextAnswer.ack) = true → t.ready)
        ∧ ∀ late, s.nextAnswer.ack = .pause :: late → arrivals t.wire = arrivals late)
      ∧ ((∀ p, t.result ≠ some (.payload p)) → t.exchange = .drainDue ∧ arrivals t.wire = arrivals s.nextAnswer.ack)
      ∧ t.answers = s.answers.tail ∧ t.calls = later ∧ t.params = s.params

/-- 20_memory R64 and R65, the other ends of an exchange: an error of ENCODE ends it with nothing written; a MemWrite to
a read-only register or with an empty value is a MemRead in disguise, after which it drains if the caller so chooses.
That a failed step ends it before that drain is the model's inference (DEDUCED, log entry 9). -/
def Obligations.ExchangesThatWriteNothingOrAsk : Prop :=
  ∀ (s : State) (sel c : Byte) (v : Bytes) (b : Bool) (later : List Call), s.params.admitted = true →
    (∀ e, s.calls = .memRead sel c :: later → encodeRequest s.params c sel none = .error e →
      step s = .next ((s.withCalls later).raise e))
    ∧ (∀ e, s.calls = .memWrite sel c v b :: later → presentable s.params (.memWrite sel c v b) = true →
      encodeRequest s.params c sel (some v) = .error e → step s = .next ((s.withCalls later).raise e))
    ∧ ∀ r, s.params.regOf? c = some r → ((s.params.entry r).writable = false ∨ v = []) →
      s.calls = .memWrite sel c v b :: later → presentable s.params (.memWrite sel c v b) = true →
      (b = false → step s = step (s.withCalls (.memRead sel c :: later)))
      ∧ (b = true → ∀ u, step (s.withCalls (.memRead sel c :: later)) = .next u →
        ((∃ p, u.result = some (.payload p)) → step s = .next (discardPending u))
        ∧ ((∀ p, u.result ≠ some (.payload p)) → step s = .next u))

/-- 70_reset_and_hazards section 1: a reset changes nothing a unit reads and clears the outputs. R271 says that a reset
in the middle of an exchange "may" leave the link out of step; that it always does, and that a reset at another time
never does, is the model's inference (DEDUCED, log entry 9). That the bytes arrived and to come stay as they were is the
model's choice (log entry 17). -/
def Obligations.ResetDuringExchange : Prop :=
  ∀ (s : State) (later : List Call), s.calls = .reset :: later →
    ∃ t, step s = .next t ∧ t.params = s.params ∧ t.result = none ∧ t.exchange = .none ∧ t.calls = later
      ∧ t.rx = s.rx ∧ t.wire = s.wire ∧ t.answers = s.answers ∧ t.tx = s.tx
      ∧ (s.exchange = .none → t.link = s.link) ∧ (s.exchange ≠ .none → t.link = .desynchronised)

/-! ### Value helpers -/

/-- 43_value_helpers R220, R221 and R225: with exact arithmetic (the spec's own choice, 92_eei_decisions D14) the raw
value is the least natural number not below `25600 * p / n`. Under the software's it differs by at most one, and only
where the quotient is near an integer, within one seventh (a free value within that bound, log entry 16). Its two bytes
are big-endian. The source's example is safe under either. -/
def Obligations.PercentEncodeIsCeiling : Prop :=
  (∀ (s : State) (later : List Call) (p n : Rat) (raw : BitVec 16), s.calls = .pct16Encode p n :: later →
    step s = .next ((s.withCalls later).deliver (.rawValue raw)) →
    (s.params.numerics = .exact →
      25600 * p / n ≤ (raw.toNat : Rat) ∧ ∀ m : Nat, 25600 * p / n ≤ (m : Rat) → raw.toNat ≤ m)
    ∧ (s.params.numerics = .softwareFloat →
      (raw.toNat : Int) ≤ percentRaw p n + 1 ∧ percentRaw p n ≤ raw.toNat + 1
      ∧ ∀ m : Int, (m : Rat) + 1 / 7 < 25600 * p / n → 25600 * p / n ≤ (m : Rat) + 6 / 7 → (raw.toNat : Int) = m + 1))
  ∧ (∀ (s : State) (later : List Call) (raw : BitVec 16), s.calls = .u16Bytes raw :: later →
    ∃ h l : Byte, step s = .next ((s.withCalls later).deliver (.payload [h, l])) ∧ h = raw.extractLsb' 8 8
      ∧ l = raw.extractLsb' 0 8)
  ∧ (∀ numerics, pct16Encode numerics (51 / 2) 42 = some 0x3CB7) ∧ u16Bytes 0x3CB7 = [0x3C, 0xB7]

/-- 43_value_helpers, the domain of PCT16_ENC (a decision of the spec, 92_eei_decisions D14): it answers exactly when
the nominal value is positive, the physical value not negative and the result at most 65535; else it is refused, never
truncated. Under the software's numerics the last bound is certain only to within one seventh (log entry 16). -/
def Obligations.PercentEncodeDomain : Prop :=
  ∀ (s : State) (later : List Call) (p n : Rat), s.calls = .pct16Encode p n :: later →
    (0 < n → 0 ≤ p →
      (25600 * p / n ≤ 65534 + 6 / 7 ∨ (s.params.numerics = .exact ∧ 25600 * p / n ≤ 65535)) →
      ∃ raw, step s = .next ((s.withCalls later).deliver (.rawValue raw)))
    ∧ (n ≤ 0 ∨ p < 0 ∨ 65535 + 1 / 7 < 25600 * p / n
      ∨ (s.params.numerics = .exact ∧ 65535 < 25600 * p / n) →
      step s = .refused .percentOutOfDomain)

/-- 43_value_helpers, the laws of the percentage encoding in exact arithmetic: zero, 100 percent, monotone, and reading
back gives no less than what was encoded, with equality exactly at an integer and an excess below `n / 25600`. -/
def Obligations.PercentLaws : Prop :=
  ∀ n : Rat, 0 < n →
    pct16Encode .exact 0 n = some 0 ∧ pct16Encode .exact n n = some 0x6400
    ∧ (∀ p q v w, p ≤ q → pct16Encode .exact p n = some v → pct16Encode .exact q n = some w → v.toNat ≤ w.toNat)
    ∧ ∀ p v h l, pct16Encode .exact p n = some v → u16Bytes v = [h, l] →
      p ≤ pct16Decode .exact h l n ∧ pct16Decode .exact h l n - p < n / 25600
      ∧ (pct16Decode .exact h l n = p ↔ ∃ m : Int, 25600 * p / n = m)

/-- 43_value_helpers R222: in exact arithmetic the value read back is `(256*h + l) * nominal / 25600`; the spec's
example. Under the software's it is a free value (log entry 16). That there is a result for a nominal value of zero or
below too is the model's inference (DEDUCED, log entry 15). -/
def Obligations.PercentDecodeFormula : Prop :=
  (∀ (s : State) (later : List Call) (h l : Byte) (n : Rat), s.calls = .pct16Decode h l n :: later →
    ∃ q, step s = .next ((s.withCalls later).deliver (.physicalValue q))
      ∧ (s.params.numerics = .exact → q = ((256 * h.toNat + l.toNat : Nat) : Rat) * n / 25600))
  ∧ pct16Decode .exact 0x3C 0xB7 42 = 326403 / 12800

/-- 43_value_helpers, F32_BE: the sign is the top bit of the first byte, the low fraction bits are the last byte, and
every bit pattern passes (the layout of binary32 is general knowledge, log entry 10). -/
def Obligations.FloatBytesBigEndian : Prop :=
  ∀ (s : State) (later : List Call) (b3 b2 b1 b0 : Byte), s.calls = .float32 b3 b2 b1 b0 :: later →
    ∃ bits, step s = .next ((s.withCalls later).deliver (.float32 bits))
      ∧ bits.toNat = b3.toNat * 2 ^ 24 + b2.toNat * 2 ^ 16 + b1.toNat * 2 ^ 8 + b0.toNat
      ∧ bits.getLsbD 31 = b3.getLsbD 7 ∧ bits.extractLsb' 0 8 = b0
end

