-- ==== Sys2Proof/Laws/Catalog.lean ====
section
/-! SUPPORT. What LOOKUP answers, and what an admitted Catalog guarantees. -/

namespace Sys2Proof

theorem Reg.mem_all (r : Reg) : r ∈ Reg.all := by cases r <;> decide

theorem nodup_of_noRepeats {bs : Bytes} (h : noRepeats bs = true) : bs.Nodup := by
  induction bs with
  | nil => exact List.nodup_nil
  | cons b bs ih =>
    simp only [noRepeats, Bool.and_eq_true, Bool.not_eq_true', List.contains_eq_mem, decide_eq_false_iff_not] at h
    exact List.nodup_cons.mpr ⟨h.1, ih h.2⟩

theorem admitted_entry {k : Params} (h : k.admitted = true) (r : Reg) : k.entryAdmitted r = true := by
  simp only [Params.admitted, Bool.and_eq_true, List.all_eq_true] at h
  exact h.1.1.1.1 r r.mem_all

/-- The sizes of an admitted entry (10_state R28). -/
theorem admitted_sizes {k : Params} (h : k.admitted = true) (r : Reg) :
    1 ≤ (k.entry r).allocatedPayloadSize ∧ (k.entry r).allocatedPayloadSize ≤ 16 := by
  have := admitted_entry h r
  simp only [Params.entryAdmitted, Bool.and_eq_true, decide_eq_true_eq] at this
  exact this.1

/-- Under the literal 2 every scalar has the reply size 2 (92_eei_decisions D5). -/
theorem literalTwo_scalar {k : Params} (h : k.literalTwo = true) {r : Reg} (hr : r.isScalar16 = true) :
    (k.entry r).replyFrameSize = 2 := by
  have := List.all_eq_true.mp h r r.mem_all
  simpa [hr] using this

/-- A reply size below 5 is the literal 2 that all six scalars have (10_state R28, 92_eei_decisions D5). -/
theorem admitted_reply {k : Params} (h : k.admitted = true) (r : Reg) :
    overhead ≤ (k.entry r).replyFrameSize
      ∨ (k.literalTwo = true ∧ r.isScalar16 = true ∧ (k.entry r).replyFrameSize = 2) := by
  have := admitted_entry h r
  simp only [Params.entryAdmitted, Bool.and_eq_true, Bool.or_eq_true, decide_eq_true_eq] at this
  exact this.2.imp_right fun ⟨h2, hr⟩ => ⟨h2, hr, literalTwo_scalar h2 hr⟩

/-- No register of an admitted Catalog has an empty reply. -/
theorem admitted_reply_pos {k : Params} (h : k.admitted = true) (r : Reg) : 0 < (k.entry r).replyFrameSize := by
  rcases admitted_reply h r with h5 | ⟨-, -, h2⟩
  · exact lt_of_lt_of_le (by decide) h5
  · simp [h2]

/-- A reply that the Catalog calls for can be presented (92_eei_decisions D2). -/
theorem admitted_presentable {k : Params} (h : k.admitted = true) (r : Reg) :
    withinBound k.replyInMax (k.entry r).replyFrameSize = true := by
  simp only [Params.admitted, Params.boundsAdmitted, Bool.and_eq_true, List.all_eq_true] at h
  exact h.2.2 r r.mem_all

theorem withinBound_mono {bound : Option Nat} {m n : Nat} (h : withinBound bound n = true) (hmn : m ≤ n) :
    withinBound bound m = true := by
  cases bound with
  | none => rfl
  | some most => simp only [withinBound, decide_eq_true_eq] at h ⊢; omega

/-- A payload of at most 16 bytes can be presented (92_eei_decisions D2). -/
theorem admitted_payload_presentable {k : Params} (h : k.admitted = true) {n : Nat} (hn : n ≤ 16) :
    withinBound k.payloadInMax n = true := by
  simp only [Params.admitted, Params.boundsAdmitted, Bool.and_eq_true] at h
  exact withinBound_mono h.2.1.1 hn

theorem admitted_injective {k : Params} (h : k.admitted = true) {r r' : Reg}
    (hc : k.regCode.get r = k.regCode.get r') : r = r' := by
  simp only [Params.admitted, Bool.and_eq_true] at h
  exact List.inj_on_of_nodup_map (nodup_of_noRepeats h.1.1.1.2) r.mem_all r'.mem_all hc

/-- A register found by a code has that code. -/
theorem regOf?_some {k : Params} {c : Byte} {r : Reg} (h : k.regOf? c = some r) : k.regCode.get r = c := by
  have := List.find?_some h
  simpa using this

theorem regOf?_none {k : Params} {c : Byte} (h : k.regOf? c = none) (r : Reg) : k.regCode.get r ≠ c := by
  have := List.find?_eq_none.mp h r r.mem_all
  simpa using this

/-- The code of a register finds that register (20_memory R47). -/
theorem regOf?_code {k : Params} (h : k.admitted = true) (r : Reg) : k.regOf? (k.regCode.get r) = some r := by
  cases hf : k.regOf? (k.regCode.get r) with
  | none => exact absurd rfl (regOf?_none hf r)
  | some r' => rw [admitted_injective h (regOf?_some hf)]

/-- Everything LOOKUP can answer. -/
theorem lookup_cases (k : Params) (c : Byte) :
    (∃ r, k.regOf? c = some r ∧ k.regCode.get r = c ∧ lookup k c = .ok (k.entry r))
      ∨ (k.regOf? c = none ∧ (∀ r, k.regCode.get r ≠ c) ∧ lookup k c = .error .unknownRegister) := by
  cases h : k.regOf? c with
  | none => exact .inr ⟨rfl, regOf?_none h, by simp [lookup, h]⟩
  | some r => exact .inl ⟨r, rfl, regOf?_some h, by simp [lookup, h]⟩

theorem lookup_code {k : Params} (h : k.admitted = true) (r : Reg) :
    lookup k (k.regCode.get r) = .ok (k.entry r) := by
  simp [lookup, regOf?_code h r]

theorem standard_admitted : Params.standard.admitted = true := by decide

end Sys2Proof
end

