-- ==== Sys2Proof/Laws/Encoding.lean ====
section
/-! SUPPORT. Byte order, checksum, and the fields of a start delimiter. -/

namespace Sys2Proof

@[simp] theorem byteSum_nil : byteSum [] = 0 := rfl

@[simp] theorem byteSum_cons (b : Byte) (bs : Bytes) : byteSum (b :: bs) = b.toNat + byteSum bs := by
  simp [byteSum]

@[simp] theorem byteSum_append (bs bs' : Bytes) : byteSum (bs ++ bs') = byteSum bs + byteSum bs' := by
  simp [byteSum]

theorem byteSum_le (bs : Bytes) : byteSum bs ≤ 255 * bs.length := by
  induction bs with
  | nil => simp
  | cons b bs ih =>
    have := b.isLt
    simp only [byteSum_cons, List.length_cons]
    omega

@[simp] theorem be16_length (v : BitVec 16) : (be16 v).length = 2 := rfl

@[simp] theorem withChecksum_length (head : Bytes) : (withChecksum head).length = head.length + 2 := by
  simp [withChecksum]

/-- A 16-bit value and its two bytes (00_scope R14). -/
@[simp] theorem unbe16_be16 (v : BitVec 16) : unbe16 (be16 v) = v.toNat := by
  have := v.isLt
  simp only [unbe16, be16, List.foldl_cons, List.foldl_nil, BitVec.extractLsb'_toNat, Nat.shiftRight_eq_div_pow]
  omega

theorem be16_inj {v w : BitVec 16} (h : be16 v = be16 w) : v = w :=
  BitVec.eq_of_toNat_eq (by simpa using congrArg unbe16 h)

/-- Four fields fill the byte (30_encoding R75). -/
theorem delimiter_of_fields {d : Byte} {mt : BitVec 2} {len : BitVec 4} (hc : castType d = 1)
    (hd : direction d = 1) (hm : messageType d = mt) (hl : lengthField d = len) : delimiterBits mt len = d := by
  subst hm hl
  revert hc hd
  simp only [castType, direction, messageType, lengthField, delimiterBits]
  revert d
  decide

@[simp] theorem messageType_delimiterBits (mt : BitVec 2) (len : BitVec 4) :
    messageType (delimiterBits mt len) = mt := by
  revert mt len
  decide

@[simp] theorem castType_delimiterBits (mt : BitVec 2) (len : BitVec 4) : castType (delimiterBits mt len) = 1 := by
  revert mt len
  decide

@[simp] theorem direction_delimiterBits (mt : BitVec 2) (len : BitVec 4) : direction (delimiterBits mt len) = 1 := by
  revert mt len
  decide

@[simp] theorem lengthField_delimiterBits (mt : BitVec 2) (len : BitVec 4) :
    lengthField (delimiterBits mt len) = len := by
  revert mt len
  decide

/-- The length field of an admitted register holds its size class less one, whole (30_encoding R75). -/
theorem sizeField_toNat {k : Params} (h : k.admitted = true) (r : Reg) :
    (sizeField k r).toNat = (k.entry r).allocatedPayloadSize - 1 := by
  have := admitted_sizes h r
  rw [sizeField, BitVec.toNat_ofNat]
  omega

/-- The table of constructors and the shape of a form agree. -/
@[simp] theorem form_query (r : Reg) (sel : Byte) : (Instr.query r sel).form = .query r sel := by
  cases r <;> rfl

@[simp] theorem form_reply (r : Reg) (reply : Bytes) : (Instr.reply r reply).form = .reply r reply := by
  cases r <;> rfl

theorem form_send {r : Reg} {sel p0 p1 : Byte} {i : Instr} (h : Instr.send? r sel p0 p1 = some i) :
    i.form = .send r sel p0 p1 := by
  cases r <;> simp only [Instr.send?, Option.some.injEq, reduceCtorEq] at h <;> subst h <;> rfl

theorem send?_isSome (r : Reg) (sel p0 p1 : Byte) : (Instr.send? r sel p0 p1).isSome = r.hasSend := by
  cases r <;> rfl

/-- An instruction is the row its form names. -/
theorem form_inj {i j : Instr} (h : i.form = j.form) : i = j := by
  cases i <;> cases j <;> simp_all [Instr.form]

namespace Machine

/-- The adder of ENC and the layout of the checksum field agree (41_telegram_encoder R137, 30_encoding R81). -/
theorem sealFrame_eq_withChecksum (head : Bytes) : sealFrame head = withChecksum head := by
  have hhi : BitVec.ofNat 8 (byteSum head % checksumMod / 256) = (checksum head).extractLsb' 8 8 := by
    apply BitVec.eq_of_toNat_eq
    simp only [checksum, checksumMod, BitVec.extractLsb'_toNat, BitVec.toNat_ofNat, Nat.shiftRight_eq_div_pow]
  have hlo : BitVec.ofNat 8 (byteSum head % checksumMod % 256) = (checksum head).extractLsb' 0 8 := by
    apply BitVec.eq_of_toNat_eq
    simp only [checksum, checksumMod, BitVec.extractLsb'_toNat, BitVec.toNat_ofNat, Nat.shiftRight_eq_div_pow]
    omega
  simp only [sealFrame, withChecksum, be16, hhi, hlo]

theorem slice_length (s : Bytes) (a b : Nat) (h : b ≤ s.length) : (slice s a b).length = b - a := by
  simp [slice, Nat.min_eq_left h]

/-- The slice between a 3-byte header and a 2-byte trailer is what stands between them (00_scope R13). -/
theorem slice_middle (h0 h1 h2 k0 k1 : Byte) (payload : Bytes) :
    slice (h0 :: h1 :: h2 :: payload ++ [k0, k1]) 3 (payload.length + 3) = payload := by
  simp [slice]

end Machine

end Sys2Proof
end

