-- ==== Sys2Proof/Laws/PerInstr.lean ====
section
/-! SUPPORT. A family stated for every constructor of `Instr`: how many bytes the wire form of a well-formed
instruction has (30_encoding R83, R84). -/

namespace Sys2Proof.Laws.WireLength

/-- The wire form of a well-formed instruction has the total length the tables give. -/
def Statement (i : Instr) : Prop :=
  i.wellFormed = true → (encode Params.standard i).length = i.wireLength

theorem query_length (r : Reg) (sel : Byte) : (encodeForm Params.standard (.query r sel)).length = 5 := rfl

theorem send_length (r : Reg) (sel p0 p1 : Byte) :
    (encodeForm Params.standard (.send r sel p0 p1)).length = 7 := rfl

theorem reply_length (i : Instr) (r : Reg) (reply : Bytes) (h : i.form = .reply r reply) : Statement i := by
  intro hw
  simpa [encode, Instr.wireLength, Instr.wellFormed, encodeForm, h] using hw

theorem queryDeviceType (sel : Byte) : Statement (.queryDeviceType sel) :=
  fun _ => query_length .deviceType sel

theorem querySerialNumber (sel : Byte) : Statement (.querySerialNumber sel) :=
  fun _ => query_length .serialNumber sel

theorem queryNominalVoltage (sel : Byte) : Statement (.queryNominalVoltage sel) :=
  fun _ => query_length .nominalVoltage sel

theorem queryNominalCurrent (sel : Byte) : Statement (.queryNominalCurrent sel) :=
  fun _ => query_length .nominalCurrent sel

theorem queryNominalPower (sel : Byte) : Statement (.queryNominalPower sel) :=
  fun _ => query_length .nominalPower sel

theorem queryArticleNumber (sel : Byte) : Statement (.queryArticleNumber sel) :=
  fun _ => query_length .articleNumber sel

theorem queryManufacturer (sel : Byte) : Statement (.queryManufacturer sel) :=
  fun _ => query_length .manufacturer sel

theorem querySoftwareVersion (sel : Byte) : Statement (.querySoftwareVersion sel) :=
  fun _ => query_length .softwareVersion sel

theorem queryDeviceClass (sel : Byte) : Statement (.queryDeviceClass sel) :=
  fun _ => query_length .deviceClass sel

theorem queryOvpThreshold (sel : Byte) : Statement (.queryOvpThreshold sel) :=
  fun _ => query_length .ovpThreshold sel

theorem queryOcpThreshold (sel : Byte) : Statement (.queryOcpThreshold sel) :=
  fun _ => query_length .ocpThreshold sel

theorem querySetValueVoltage (sel : Byte) : Statement (.querySetValueVoltage sel) :=
  fun _ => query_length .setValueVoltage sel

theorem querySetValueCurrent (sel : Byte) : Statement (.querySetValueCurrent sel) :=
  fun _ => query_length .setValueCurrent sel

theorem queryPowerSupplyControl (sel : Byte) : Statement (.queryPowerSupplyControl sel) :=
  fun _ => query_length .powerSupplyControl sel

theorem queryStatusActualValues (sel : Byte) : Statement (.queryStatusActualValues sel) :=
  fun _ => query_length .statusActualValues sel

theorem queryStatusSetValues (sel : Byte) : Statement (.queryStatusSetValues sel) :=
  fun _ => query_length .statusSetValues sel

theorem sendOvpThreshold (sel p0 p1 : Byte) : Statement (.sendOvpThreshold sel p0 p1) :=
  fun _ => send_length .ovpThreshold sel p0 p1

theorem sendOcpThreshold (sel p0 p1 : Byte) : Statement (.sendOcpThreshold sel p0 p1) :=
  fun _ => send_length .ocpThreshold sel p0 p1

theorem sendSetValueVoltage (sel p0 p1 : Byte) : Statement (.sendSetValueVoltage sel p0 p1) :=
  fun _ => send_length .setValueVoltage sel p0 p1

theorem sendSetValueCurrent (sel p0 p1 : Byte) : Statement (.sendSetValueCurrent sel p0 p1) :=
  fun _ => send_length .setValueCurrent sel p0 p1

theorem sendPowerSupplyControl (sel p0 p1 : Byte) : Statement (.sendPowerSupplyControl sel p0 p1) :=
  fun _ => send_length .powerSupplyControl sel p0 p1

theorem replyDeviceType (reply : Bytes) : Statement (.replyDeviceType reply) :=
  reply_length _ .deviceType reply rfl

theorem replySerialNumber (reply : Bytes) : Statement (.replySerialNumber reply) :=
  reply_length _ .serialNumber reply rfl

theorem replyNominalVoltage (reply : Bytes) : Statement (.replyNominalVoltage reply) :=
  reply_length _ .nominalVoltage reply rfl

theorem replyNominalCurrent (reply : Bytes) : Statement (.replyNominalCurrent reply) :=
  reply_length _ .nominalCurrent reply rfl

theorem replyNominalPower (reply : Bytes) : Statement (.replyNominalPower reply) :=
  reply_length _ .nominalPower reply rfl

theorem replyArticleNumber (reply : Bytes) : Statement (.replyArticleNumber reply) :=
  reply_length _ .articleNumber reply rfl

theorem replyManufacturer (reply : Bytes) : Statement (.replyManufacturer reply) :=
  reply_length _ .manufacturer reply rfl

theorem replySoftwareVersion (reply : Bytes) : Statement (.replySoftwareVersion reply) :=
  reply_length _ .softwareVersion reply rfl

theorem replyDeviceClass (reply : Bytes) : Statement (.replyDeviceClass reply) :=
  reply_length _ .deviceClass reply rfl

theorem replyOvpThreshold (reply : Bytes) : Statement (.replyOvpThreshold reply) :=
  reply_length _ .ovpThreshold reply rfl

theorem replyOcpThreshold (reply : Bytes) : Statement (.replyOcpThreshold reply) :=
  reply_length _ .ocpThreshold reply rfl

theorem replySetValueVoltage (reply : Bytes) : Statement (.replySetValueVoltage reply) :=
  reply_length _ .setValueVoltage reply rfl

theorem replySetValueCurrent (reply : Bytes) : Statement (.replySetValueCurrent reply) :=
  reply_length _ .setValueCurrent reply rfl

theorem replyPowerSupplyControl (reply : Bytes) : Statement (.replyPowerSupplyControl reply) :=
  reply_length _ .powerSupplyControl reply rfl

theorem replyStatusActualValues (reply : Bytes) : Statement (.replyStatusActualValues reply) :=
  reply_length _ .statusActualValues reply rfl

theorem replyStatusSetValues (reply : Bytes) : Statement (.replyStatusSetValues reply) :=
  reply_length _ .statusSetValues reply rfl

end Sys2Proof.Laws.WireLength
end

