-- ==== Sys2Proof/Laws/State.lean ====
section
/-! SUPPORT. Every field after every update of the state, by the update's definition. -/

namespace Sys2Proof.Machine

@[simp] theorem State.deliver_params (s : State) (r : Result) :
    (s.deliver r).params = s.params := rfl

@[simp] theorem State.deliver_result (s : State) (r : Result) :
    (s.deliver r).result = some r := rfl

@[simp] theorem State.deliver_link (s : State) (r : Result) :
    (s.deliver r).link = s.link := rfl

@[simp] theorem State.deliver_exchange (s : State) (r : Result) :
    (s.deliver r).exchange = s.exchange := rfl

@[simp] theorem State.deliver_rx (s : State) (r : Result) :
    (s.deliver r).rx = s.rx := rfl

@[simp] theorem State.deliver_tx (s : State) (r : Result) :
    (s.deliver r).tx = s.tx := rfl

@[simp] theorem State.deliver_wire (s : State) (r : Result) :
    (s.deliver r).wire = s.wire := rfl

@[simp] theorem State.deliver_answers (s : State) (r : Result) :
    (s.deliver r).answers = s.answers := rfl

@[simp] theorem State.deliver_writeFates (s : State) (r : Result) :
    (s.deliver r).writeFates = s.writeFates := rfl

@[simp] theorem State.deliver_calls (s : State) (r : Result) :
    (s.deliver r).calls = s.calls := rfl

@[simp] theorem State.raise_params (s : State) (e : CoreError) :
    (s.raise e).params = s.params := rfl

@[simp] theorem State.raise_result (s : State) (e : CoreError) :
    (s.raise e).result = some (.error e) := rfl

@[simp] theorem State.raise_link (s : State) (e : CoreError) :
    (s.raise e).link = s.link := rfl

@[simp] theorem State.raise_exchange (s : State) (e : CoreError) :
    (s.raise e).exchange = s.exchange := rfl

@[simp] theorem State.raise_rx (s : State) (e : CoreError) :
    (s.raise e).rx = s.rx := rfl

@[simp] theorem State.raise_tx (s : State) (e : CoreError) :
    (s.raise e).tx = s.tx := rfl

@[simp] theorem State.raise_wire (s : State) (e : CoreError) :
    (s.raise e).wire = s.wire := rfl

@[simp] theorem State.raise_answers (s : State) (e : CoreError) :
    (s.raise e).answers = s.answers := rfl

@[simp] theorem State.raise_writeFates (s : State) (e : CoreError) :
    (s.raise e).writeFates = s.writeFates := rfl

@[simp] theorem State.raise_calls (s : State) (e : CoreError) :
    (s.raise e).calls = s.calls := rfl

@[simp] theorem State.withCalls_params (s : State) (calls : List Call) :
    (s.withCalls calls).params = s.params := rfl

@[simp] theorem State.withCalls_result (s : State) (calls : List Call) :
    (s.withCalls calls).result = s.result := rfl

@[simp] theorem State.withCalls_link (s : State) (calls : List Call) :
    (s.withCalls calls).link = s.link := rfl

@[simp] theorem State.withCalls_exchange (s : State) (calls : List Call) :
    (s.withCalls calls).exchange = s.exchange := rfl

@[simp] theorem State.withCalls_rx (s : State) (calls : List Call) :
    (s.withCalls calls).rx = s.rx := rfl

@[simp] theorem State.withCalls_tx (s : State) (calls : List Call) :
    (s.withCalls calls).tx = s.tx := rfl

@[simp] theorem State.withCalls_wire (s : State) (calls : List Call) :
    (s.withCalls calls).wire = s.wire := rfl

@[simp] theorem State.withCalls_answers (s : State) (calls : List Call) :
    (s.withCalls calls).answers = s.answers := rfl

@[simp] theorem State.withCalls_writeFates (s : State) (calls : List Call) :
    (s.withCalls calls).writeFates = s.writeFates := rfl

@[simp] theorem State.withCalls_calls (s : State) (calls : List Call) :
    (s.withCalls calls).calls = calls := rfl

@[simp] theorem State.withLink_params (s : State) (link : Link) :
    (s.withLink link).params = s.params := rfl

@[simp] theorem State.withLink_result (s : State) (link : Link) :
    (s.withLink link).result = s.result := rfl

@[simp] theorem State.withLink_link (s : State) (link : Link) :
    (s.withLink link).link = link := rfl

@[simp] theorem State.withLink_exchange (s : State) (link : Link) :
    (s.withLink link).exchange = s.exchange := rfl

@[simp] theorem State.withLink_rx (s : State) (link : Link) :
    (s.withLink link).rx = s.rx := rfl

@[simp] theorem State.withLink_tx (s : State) (link : Link) :
    (s.withLink link).tx = s.tx := rfl

@[simp] theorem State.withLink_wire (s : State) (link : Link) :
    (s.withLink link).wire = s.wire := rfl

@[simp] theorem State.withLink_answers (s : State) (link : Link) :
    (s.withLink link).answers = s.answers := rfl

@[simp] theorem State.withLink_writeFates (s : State) (link : Link) :
    (s.withLink link).writeFates = s.writeFates := rfl

@[simp] theorem State.withLink_calls (s : State) (link : Link) :
    (s.withLink link).calls = s.calls := rfl

@[simp] theorem State.withExchange_params (s : State) (exchange : Exchange) :
    (s.withExchange exchange).params = s.params := rfl

@[simp] theorem State.withExchange_result (s : State) (exchange : Exchange) :
    (s.withExchange exchange).result = s.result := rfl

@[simp] theorem State.withExchange_link (s : State) (exchange : Exchange) :
    (s.withExchange exchange).link = s.link := rfl

@[simp] theorem State.withExchange_exchange (s : State) (exchange : Exchange) :
    (s.withExchange exchange).exchange = exchange := rfl

@[simp] theorem State.withExchange_rx (s : State) (exchange : Exchange) :
    (s.withExchange exchange).rx = s.rx := rfl

@[simp] theorem State.withExchange_tx (s : State) (exchange : Exchange) :
    (s.withExchange exchange).tx = s.tx := rfl

@[simp] theorem State.withExchange_wire (s : State) (exchange : Exchange) :
    (s.withExchange exchange).wire = s.wire := rfl

@[simp] theorem State.withExchange_answers (s : State) (exchange : Exchange) :
    (s.withExchange exchange).answers = s.answers := rfl

@[simp] theorem State.withExchange_writeFates (s : State) (exchange : Exchange) :
    (s.withExchange exchange).writeFates = s.writeFates := rfl

@[simp] theorem State.withExchange_calls (s : State) (exchange : Exchange) :
    (s.withExchange exchange).calls = s.calls := rfl

@[simp] theorem State.withReceive_params (s : State) (rx : Bytes) (wire : List WireEvent) :
    (s.withReceive rx wire).params = s.params := rfl

@[simp] theorem State.withReceive_result (s : State) (rx : Bytes) (wire : List WireEvent) :
    (s.withReceive rx wire).result = s.result := rfl

@[simp] theorem State.withReceive_link (s : State) (rx : Bytes) (wire : List WireEvent) :
    (s.withReceive rx wire).link = s.link := rfl

@[simp] theorem State.withReceive_exchange (s : State) (rx : Bytes) (wire : List WireEvent) :
    (s.withReceive rx wire).exchange = s.exchange := rfl

@[simp] theorem State.withReceive_rx (s : State) (rx : Bytes) (wire : List WireEvent) :
    (s.withReceive rx wire).rx = rx := rfl

@[simp] theorem State.withReceive_tx (s : State) (rx : Bytes) (wire : List WireEvent) :
    (s.withReceive rx wire).tx = s.tx := rfl

@[simp] theorem State.withReceive_wire (s : State) (rx : Bytes) (wire : List WireEvent) :
    (s.withReceive rx wire).wire = wire := rfl

@[simp] theorem State.withReceive_answers (s : State) (rx : Bytes) (wire : List WireEvent) :
    (s.withReceive rx wire).answers = s.answers := rfl

@[simp] theorem State.withReceive_writeFates (s : State) (rx : Bytes) (wire : List WireEvent) :
    (s.withReceive rx wire).writeFates = s.writeFates := rfl

@[simp] theorem State.withReceive_calls (s : State) (rx : Bytes) (wire : List WireEvent) :
    (s.withReceive rx wire).calls = s.calls := rfl

@[simp] theorem State.withSent_params (s : State) (tx : Bytes) (fates : List (Option Nat)) :
    (s.withSent tx fates).params = s.params := rfl

@[simp] theorem State.withSent_result (s : State) (tx : Bytes) (fates : List (Option Nat)) :
    (s.withSent tx fates).result = s.result := rfl

@[simp] theorem State.withSent_link (s : State) (tx : Bytes) (fates : List (Option Nat)) :
    (s.withSent tx fates).link = s.link := rfl

@[simp] theorem State.withSent_exchange (s : State) (tx : Bytes) (fates : List (Option Nat)) :
    (s.withSent tx fates).exchange = s.exchange := rfl

@[simp] theorem State.withSent_rx (s : State) (tx : Bytes) (fates : List (Option Nat)) :
    (s.withSent tx fates).rx = s.rx := rfl

@[simp] theorem State.withSent_tx (s : State) (tx : Bytes) (fates : List (Option Nat)) :
    (s.withSent tx fates).tx = tx := rfl

@[simp] theorem State.withSent_wire (s : State) (tx : Bytes) (fates : List (Option Nat)) :
    (s.withSent tx fates).wire = s.wire := rfl

@[simp] theorem State.withSent_answers (s : State) (tx : Bytes) (fates : List (Option Nat)) :
    (s.withSent tx fates).answers = s.answers := rfl

@[simp] theorem State.withSent_writeFates (s : State) (tx : Bytes) (fates : List (Option Nat)) :
    (s.withSent tx fates).writeFates = fates := rfl

@[simp] theorem State.withSent_calls (s : State) (tx : Bytes) (fates : List (Option Nat)) :
    (s.withSent tx fates).calls = s.calls := rfl

@[simp] theorem State.answered_params (s : State) :
    s.answered.params = s.params := rfl

@[simp] theorem State.answered_result (s : State) :
    s.answered.result = s.result := rfl

@[simp] theorem State.answered_link (s : State) :
    s.answered.link = s.link := rfl

@[simp] theorem State.answered_exchange (s : State) :
    s.answered.exchange = s.exchange := rfl

@[simp] theorem State.answered_rx (s : State) :
    s.answered.rx = s.rx := rfl

@[simp] theorem State.answered_tx (s : State) :
    s.answered.tx = s.tx := rfl

@[simp] theorem State.answered_wire (s : State) :
    s.answered.wire = s.wire ++ s.nextAnswer.reply ++ s.nextAnswer.ack := rfl

@[simp] theorem State.answered_answers (s : State) :
    s.answered.answers = s.answers.tail := rfl

@[simp] theorem State.answered_writeFates (s : State) :
    s.answered.writeFates = s.writeFates := rfl

@[simp] theorem State.answered_calls (s : State) :
    s.answered.calls = s.calls := rfl

@[simp] theorem State.withCalls_nextAnswer (s : State) (calls : List Call) :
    (s.withCalls calls).nextAnswer = s.nextAnswer := rfl

@[simp] theorem State.withCalls_quiet (s : State) (calls : List Call) :
    (s.withCalls calls).quiet = s.quiet := rfl

@[simp] theorem State.withSent_nextAnswer (s : State) (tx : Bytes) (fates : List (Option Nat)) :
    (s.withSent tx fates).nextAnswer = s.nextAnswer := rfl

@[simp] theorem State.withSent_quiet (s : State) (tx : Bytes) (fates : List (Option Nat)) :
    (s.withSent tx fates).quiet = s.quiet := rfl

@[simp] theorem State.deliver_deliver (s : State) (r r' : Result) : (s.deliver r).deliver r' = s.deliver r' := rfl

@[simp] theorem Link.keptIf_true (link : Link) : link.keptIf true = link := rfl

@[simp] theorem Link.keptIf_false (link : Link) : link.keptIf false = .desynchronised := rfl

@[simp] theorem Link.keptIf_desynchronised (kept : Bool) : Link.desynchronised.keptIf kept = .desynchronised := by
  cases kept <;> rfl

end Sys2Proof.Machine
end

