-- ==== Sys2Proof/Laws/Transport.lean ====
section
/-! SUPPORT. Everything the transport primitives can do. -/

namespace Sys2Proof.Machine

/-- After a failed step no exchange is under way but for a drain that is due. -/
theorem exchangeAfterFailure_cases (exchange : Exchange) :
    exchangeAfterFailure exchange = .none ∨ exchangeAfterFailure exchange = .drainDue := by
  cases exchange <;> simp only [exchangeAfterFailure] <;> first | (split <;> simp) | simp

@[simp] theorem exchangeAfterFailure_awaitsReply (exchange : Exchange) :
    (exchangeAfterFailure exchange).awaitsReply = false := by
  rcases exchangeAfterFailure_cases exchange with h | h <;> rw [h] <;> rfl

@[simp] theorem exchangeAfterFailure_written (r : Request) (sent : Nat) :
    exchangeAfterFailure (.written r sent) = if r.isSend then .drainDue else .none := rfl

/-- Everything `write` can do: all bytes sent, or a failure after some of them. -/
theorem transportWrite_cases (bytes : Bytes) (s : State) :
    (∃ fates, transportWrite bytes s = sendAll bytes fates s)
    ∨ ∃ sent fates, s.writeFates = some sent :: fates ∧ transportWrite bytes s
        = ((((s.withSent (s.tx ++ bytes.take sent) fates).answered).withExchange (exchangeAfterFailure
            (exchangeAfterWrite (requestOnLink? s.params bytes) (arrivals s.nextAnswer.reply).length
              s.exchange))).withLink .desynchronised).raise .transport := by
  unfold transportWrite
  split
  · exact .inr ⟨_, _, ‹_›, rfl⟩
  · exact .inl ⟨_, rfl⟩
  · exact .inl ⟨_, rfl⟩

/-- A write on a transport with no failure ahead. -/
theorem transportWrite_ok (bytes : Bytes) (s : State) (h : s.writeFates.all (· == none) = true) :
    transportWrite bytes s = sendAll bytes s.writeFates.tail s := by
  cases hf : s.writeFates with
  | nil => simp [transportWrite, hf]
  | cons fate fates =>
    cases fate with
    | none => simp [transportWrite, hf]
    | some n => simp [hf] at h

@[simp] theorem sendAll_result (bytes : Bytes) (fates : List (Option Nat)) (s : State) :
    (sendAll bytes fates s).result = some .sent := rfl

@[simp] theorem sendAll_params (bytes : Bytes) (fates : List (Option Nat)) (s : State) :
    (sendAll bytes fates s).params = s.params := rfl

@[simp] theorem sendAll_rx (bytes : Bytes) (fates : List (Option Nat)) (s : State) :
    (sendAll bytes fates s).rx = s.rx := rfl

@[simp] theorem sendAll_tx (bytes : Bytes) (fates : List (Option Nat)) (s : State) :
    (sendAll bytes fates s).tx = s.tx ++ bytes := rfl

@[simp] theorem sendAll_wire (bytes : Bytes) (fates : List (Option Nat)) (s : State) :
    (sendAll bytes fates s).wire = s.wire ++ s.nextAnswer.reply ++ s.nextAnswer.ack := rfl

@[simp] theorem sendAll_writeFates (bytes : Bytes) (fates : List (Option Nat)) (s : State) :
    (sendAll bytes fates s).writeFates = fates := rfl

@[simp] theorem sendAll_answers (bytes : Bytes) (fates : List (Option Nat)) (s : State) :
    (sendAll bytes fates s).answers = s.answers.tail := rfl

@[simp] theorem sendAll_calls (bytes : Bytes) (fates : List (Option Nat)) (s : State) :
    (sendAll bytes fates s).calls = s.calls := rfl

@[simp] theorem sendAll_exchange (bytes : Bytes) (fates : List (Option Nat)) (s : State) :
    (sendAll bytes fates s).exchange
      = exchangeAfterWrite (requestOnLink? s.params bytes) (arrivals s.nextAnswer.reply).length s.exchange := rfl

@[simp] theorem sendAll_link (bytes : Bytes) (fates : List (Option Nat)) (s : State) :
    (sendAll bytes fates s).link
      = s.link.keptIf ((requestOnLink? s.params bytes).isSome && !s.exchange.awaitsReply && s.quiet) := rfl

@[simp] theorem arrivals_append (xs ys : List WireEvent) : arrivals (xs ++ ys) = arrivals xs ++ arrivals ys := by
  induction xs with
  | nil => rfl
  | cons event xs ih => cases event <;> simp [arrivals, ih]

@[simp] theorem prompt_append (xs ys : List WireEvent) : prompt (xs ++ ys) = (prompt xs && prompt ys) := by
  simp [prompt]

@[simp] theorem faultFree_append (xs ys : List WireEvent) : faultFree (xs ++ ys) = (faultFree xs && faultFree ys) := by
  simp [faultFree]

theorem faultFree_of_prompt {events : List WireEvent} (h : prompt events = true) : faultFree events = true := by
  simp only [prompt, faultFree, List.all_eq_true] at h ⊢
  intro event he
  have := h event he
  cases event <;> simp_all

theorem pull_nil (n : Nat) (rx : Bytes) :
    pull n rx [] = if n ≤ rx.length then .got (rx.take n) (rx.drop n) [] else .blocked := rfl

theorem pull_cons (n : Nat) (rx : Bytes) (event : WireEvent) (later : List WireEvent) :
    pull n rx (event :: later)
      = if n ≤ rx.length then .got (rx.take n) (rx.drop n) (event :: later)
        else match event with
          | .arrive bytes => pull n (rx ++ bytes) later
          | .pause => pull n rx later
          | .readFault lost => .failed (rx.drop lost) later := by
  cases event <;> rfl

/-- What a read gets is the oldest `n` bytes of what had arrived and what was to come, and the rest is left. -/
theorem pull_got {n : Nat} {rx taken rest : Bytes} {wire later : List WireEvent}
    (h : pull n rx wire = .got taken rest later) :
    taken.length = n ∧ taken ++ rest ++ arrivals later = rx ++ arrivals wire := by
  induction wire generalizing rx with
  | nil =>
    rw [pull_nil] at h
    split at h
    · cases h
      simpa using ‹n ≤ rx.length›
    · cases h
  | cons event wire ih =>
    rw [pull_cons] at h
    split at h
    · cases h
      simpa using ‹n ≤ rx.length›
    · cases event with
      | arrive bytes => simpa [arrivals] using ih h
      | pause => simpa [arrivals] using ih h
      | readFault lost => cases h

/-- What is left to come after a read is the end of what was to come, so no failure and no delay is added. -/
theorem pull_got_suffix {n : Nat} {rx taken rest : Bytes} {wire later : List WireEvent}
    (h : pull n rx wire = .got taken rest later) : later <:+ wire := by
  induction wire generalizing rx with
  | nil =>
    rw [pull_nil] at h
    split at h
    · cases h; exact List.suffix_rfl
    · cases h
  | cons event wire ih =>
    rw [pull_cons] at h
    split at h
    · cases h; exact List.suffix_rfl
    · cases event with
      | arrive bytes => exact (ih h).trans (List.suffix_cons _ _)
      | pause => exact (ih h).trans (List.suffix_cons _ _)
      | readFault lost => cases h

/-- A read whose bytes are on their way and meet no failure gets them, the oldest first. -/
theorem pull_enough {n : Nat} {rx : Bytes} {wire : List WireEvent} (hf : faultFree wire = true)
    (h : n ≤ (rx ++ arrivals wire).length) :
    ∃ rest later, pull n rx wire = .got ((rx ++ arrivals wire).take n) rest later := by
  induction wire generalizing rx with
  | nil =>
    have h' : n ≤ rx.length := by simpa [arrivals] using h
    exact ⟨rx.drop n, [], by rw [pull_nil, if_pos h']; simp [arrivals]⟩
  | cons event wire ih =>
    rw [pull_cons]
    split
    · exact ⟨_, _, by rw [List.take_append_of_le_length ‹_›]⟩
    · cases event with
      | arrive bytes =>
        simpa [arrivals] using ih (rx := rx ++ bytes) (by simpa [faultFree] using hf) (by simpa [arrivals] using h)
      | pause => exact ih (by simpa [faultFree] using hf) h
      | readFault lost => simp [faultFree] at hf

/-- A read that finds its bytes already there takes them. -/
theorem pull_ready {n : Nat} {rx : Bytes} {wire : List WireEvent} (h : n ≤ rx.length) :
    pull n rx wire = .got (rx.take n) (rx.drop n) wire := by
  cases wire <;> simp [pull_nil, pull_cons, h]

/-- Everything `readExactly` can do. -/
theorem transportRead_cases (n : Nat) (s : State) :
    (∃ taken rest wire, pull n s.rx s.wire = .got taken rest wire ∧ transportRead n s
        = .next ((((s.withReceive rest wire).withExchange (exchangeAfterRead taken s.exchange)).withLink
            (s.link.keptIf (readKeepsLink n (rest == [] && arrivals wire == []) s.exchange))).deliver (.received taken)))
    ∨ (∃ rest wire, pull n s.rx s.wire = .failed rest wire ∧ transportRead n s
        = .next ((((s.withReceive rest wire).withExchange (exchangeAfterFailure s.exchange)).withLink
            .desynchronised).raise .transport))
    ∨ (pull n s.rx s.wire = .blocked ∧ transportRead n s = .fault .readBlocked) := by
  cases h : pull n s.rx s.wire <;> simp [transportRead, h]

/-- A drain throws away a beginning of what is to come. -/
theorem arrivals_split (wire : List WireEvent) :
    arrivedByNow wire ++ arrivals (notYetArrived wire) = arrivals wire := by
  induction wire with
  | nil => rfl
  | cons event wire ih => cases event <;> simp [arrivedByNow, notYetArrived, arrivals, ih]

theorem notYetArrived_suffix (wire : List WireEvent) : notYetArrived wire <:+ wire := by
  induction wire with
  | nil => exact List.suffix_rfl
  | cons event wire ih =>
    cases event with
    | arrive bytes => exact ih.trans (List.suffix_cons _ _)
    | pause => exact List.suffix_rfl
    | readFault lost => exact List.suffix_rfl

/-- Where everything has arrived in time a drain leaves nothing to come. -/
theorem notYetArrived_of_prompt {wire : List WireEvent} (h : prompt wire = true) : notYetArrived wire = [] := by
  induction wire with
  | nil => rfl
  | cons event wire ih => cases event <;> simp_all [prompt, notYetArrived]

theorem prompt_of_suffix {xs ys : List WireEvent} (h : prompt ys = true) (hs : xs <:+ ys) : prompt xs = true := by
  obtain ⟨zs, rfl⟩ := hs
  rw [prompt_append, Bool.and_eq_true] at h
  exact h.2

end Sys2Proof.Machine
end

