-- ==== Sys2Proof/Laws/Units.lean ====
section
/-! SUPPORT. Everything one invocation of ENC or DEC can answer, and what `exec` is for every form. -/

namespace Sys2Proof.Machine

theorem frameMode_write {writable : Bool} {payload : Option Bytes}
    (h : frameMode writable (payloadPresent payload) = .write) :
    writable = true ∧ ∃ p, payload = some p ∧ p ≠ [] := by
  rcases payload with _ | _ | ⟨b, bs⟩ <;> cases writable <;> simp_all [frameMode, payloadPresent]

/-- Everything ENCODE can answer (41_telegram_encoder R130): an unlisted code, a query, a write, or a payload of the
wrong length. -/
theorem encodeRequest_cases (k : Params) (c sel : Byte) (payload : Option Bytes) :
    (k.regOf? c = none ∧ encodeRequest k c sel payload = .error .unknownRegister)
    ∨ ∃ r, k.regOf? c = some r ∧ k.regCode.get r = c ∧
      ((frameMode (k.entry r).writable (payloadPresent payload) = .query ∧
          encodeRequest k c sel payload
            = .ok (sealFrame [startDelimiter .query (k.entry r).allocatedPayloadSize, sel, c],
                (k.entry r).replyFrameSize))
      ∨ ∃ p, payload = some p ∧ p ≠ [] ∧ (k.entry r).writable = true ∧
          ((p.length = (k.entry r).allocatedPayloadSize ∧
              encodeRequest k c sel payload
                = .ok (sealFrame (startDelimiter .write (k.entry r).allocatedPayloadSize :: sel :: c :: p),
                    (k.entry r).replyFrameSize))
          ∨ (p.length ≠ (k.entry r).allocatedPayloadSize ∧
              encodeRequest k c sel payload = .error .payloadLengthMismatch))) := by
  rcases lookup_cases k c with ⟨r, hr, hc, hl⟩ | ⟨hr, -, hl⟩
  · refine .inr ⟨r, hr, hc, ?_⟩
    cases hm : frameMode (k.entry r).writable (payloadPresent payload) with
    | query => exact .inl ⟨rfl, by simp [encodeRequest, hl, hm, effectivePayload]⟩
    | write =>
      obtain ⟨hw, p, rfl, hp⟩ := frameMode_write hm
      refine .inr ⟨p, rfl, hp, hw, ?_⟩
      by_cases hlen : p.length = (k.entry r).allocatedPayloadSize
      · exact .inl ⟨hlen, by simp [encodeRequest, hl, hm, hlen, effectivePayload]⟩
      · exact .inr ⟨hlen, by simp [encodeRequest, hl, hm, hlen]⟩
  · exact .inl ⟨hr, by simp [encodeRequest, hl]⟩

/-- What ENCODE has answered when it succeeds: the sealed query of a listed register, or the sealed write of a payload
of its allocated size. -/
theorem encodeRequest_ok {k : Params} {c sel : Byte} {payload : Option Bytes} {frame : Bytes} {expected : Nat}
    (h : encodeRequest k c sel payload = .ok (frame, expected)) :
    ∃ r, k.regOf? c = some r ∧ k.regCode.get r = c ∧ expected = (k.entry r).replyFrameSize ∧
      (frame = withChecksum [startDelimiter .query (k.entry r).allocatedPayloadSize, sel, c]
      ∨ ∃ p, payload = some p ∧ p ≠ [] ∧ (k.entry r).writable = true
          ∧ p.length = (k.entry r).allocatedPayloadSize
          ∧ frame = withChecksum (startDelimiter .write (k.entry r).allocatedPayloadSize :: sel :: c :: p)) := by
  rcases encodeRequest_cases k c sel payload with
    ⟨-, e⟩ | ⟨r, hr, hc, ⟨-, e⟩ | ⟨p, hp, hne, hw, ⟨hl, e⟩ | ⟨-, e⟩⟩⟩ <;> rw [e] at h <;> cases h
  · exact ⟨r, hr, hc, rfl, .inl (sealFrame_eq_withChecksum _)⟩
  · exact ⟨r, hr, hc, rfl, .inr ⟨p, hp, hne, hw, hl, sealFrame_eq_withChecksum _⟩⟩

/-- Everything DECODE can answer for a listed register (42_telegram_decoder R180, R185, R186). -/
theorem decodeReply_listed {k : Params} {c : Byte} {r : Reg} (hr : k.regOf? c = some r) (reply : Bytes) :
    decodeReply k c reply
      = if reply.length ≠ (k.entry r).replyFrameSize ∨ (k.entry r).replyFrameSize < overhead then
          .error .replyLengthMismatch
        else if k.strictReplyChecksum = true ∧ replyChecksumOk reply = false then .error .replyChecksumMismatch
        else .ok (slice reply headerLen ((k.entry r).replyFrameSize - checksumLen)) := by
  have hl : lookup k c = .ok (k.entry r) := by simp [lookup, hr]
  by_cases h1 : reply.length = (k.entry r).replyFrameSize <;>
    by_cases h2 : (k.entry r).replyFrameSize < overhead <;> simp [decodeReply, hl, h1, h2]

theorem decodeReply_unlisted {k : Params} {c : Byte} (hr : k.regOf? c = none) (reply : Bytes) :
    decodeReply k c reply = .error .unknownRegister := by
  simp [decodeReply, lookup, hr]

/-- The result a form delivers, by its shape. -/
def formResult (k : Params) (f : Form) : Result :=
  match f with
  | .query r sel => encodeResult k (k.regCode.get r) sel none
  | .send r sel p0 p1 => encodeResult k (k.regCode.get r) sel (some [p0, p1])
  | .reply r reply => decodeResult k (k.regCode.get r) reply

/-- Every form delivers one result and does nothing else. -/
theorem exec_eq (i : Instr) (s : State) :
    exec i s = withCatalog s (.next (s.deliver (formResult s.params i.form))) := by
  cases i <;> rfl

/-- Everything `exec` can answer with a next state. -/
theorem exec_next {i : Instr} {s t : State} (h : exec i s = .next t) :
    s.params.admitted = true ∧ t = s.deliver (formResult s.params i.form) := by
  rw [exec_eq, withCatalog] at h
  split at h
  · exact ⟨‹_›, (Host.Outcome.next.inj h).symm⟩
  · cases h

theorem exec_admitted {s : State} (h : s.params.admitted = true) (i : Instr) :
    exec i s = .next (s.deliver (formResult s.params i.form)) := by
  rw [exec_eq, withCatalog, if_pos h]

end Sys2Proof.Machine
end

