-- ==== Sys2Proof/Laws/Step.lean ====
section
/-! SUPPORT. Everything an exchange can do, and everything a step can do. -/

namespace Sys2Proof.Machine

/-- Everything `write(frame)`, `readExactly(expected)`, DECODE can do with a next state: the write failed, the read
failed, or DECODE was given the bytes read. -/
theorem roundTrip_next {c : Byte} {frame : Bytes} {expected : Nat} {s t : State}
    (h : roundTrip c frame expected s = .next t) :
    ((transportWrite frame s).result = some (.error .transport) ∧ t = transportWrite frame s)
    ∨ (transportRead expected (transportWrite frame s) = .next t ∧ t.result = some (.error .transport))
    ∨ ∃ u reply, transportRead expected (transportWrite frame s) = .next u ∧ u.result = some (.received reply)
        ∧ t = (u.withExchange (exchangeAfterDecode c reply u.exchange)).deliver (decodeResult u.params c reply) := by
  unfold roundTrip at h
  rcases transportWrite_cases frame s with ⟨fates, hw⟩ | ⟨sent, fates, -, hw⟩
  · rw [hw] at h ⊢
    simp only [sendAll_result] at h
    rcases transportRead_cases expected (sendAll frame fates s) with
      ⟨taken, rest, wire, -, hr⟩ | ⟨rest, wire, -, hr⟩ | ⟨-, hr⟩
    · rw [hr] at h ⊢
      exact .inr (.inr ⟨_, taken, rfl, rfl, (Host.Outcome.next.inj h).symm⟩)
    · rw [hr] at h ⊢
      cases Host.Outcome.next.inj h
      exact .inr (.inl ⟨rfl, rfl⟩)
    · rw [hr] at h
      cases h
  · rw [hw] at h ⊢
    simp only [State.raise_result] at h
    exact .inl ⟨rfl, (Host.Outcome.next.inj h).symm⟩

/-- Noting an invocation changes the caller's exchange and nothing else. -/
theorem noted_eq (call : Call) (s : State) : ∃ exchange, s.noted call = s.withExchange exchange := by
  cases call <;> exact ⟨_, rfl⟩

/-- Every invocation but DECODE leaves the caller's exchange to the operation. -/
theorem noted_of_not_decode {call : Call} (h : ∀ c reply, call ≠ .decode c reply) (s : State) : s.noted call = s := by
  cases call
  case decode c reply => exact absurd rfl (h c reply)
  all_goals rfl

/-- Everything a step can do: run the form the oldest invocation selects, or run the invocation itself, once it can be
presented. -/
theorem step_next {s t : State} (h : step s = .next t) :
    ∃ call later, s.calls = call :: later ∧ presentable s.params call = true ∧
      ((∃ i, select s.params call = some i ∧ exec i ((s.withCalls later).noted call) = .next t)
        ∨ (select s.params call = none ∧ runCall call ((s.withCalls later).noted call) = .next t)) := by
  unfold step at h
  split at h
  · cases h
  · rename_i call later hc
    unfold invoke at h
    split at h
    · split at h
      · exact ⟨_, _, hc, ‹_›, .inl ⟨_, ‹_›, h⟩⟩
      · exact ⟨_, _, hc, ‹_›, .inr ⟨‹_›, h⟩⟩
    · cases h

/-- A step of an invocation that selects a telegram form. -/
theorem step_form {s : State} {call : Call} {later : List Call} {i : Instr} (hc : s.calls = call :: later)
    (hp : presentable s.params call = true) (hi : select s.params call = some i) :
    step s = exec i ((s.withCalls later).noted call) := by
  simp [step, invoke, hc, hp, hi]

/-- A step of an invocation that selects none. -/
theorem step_operation {s : State} {call : Call} {later : List Call} (hc : s.calls = call :: later)
    (hp : presentable s.params call = true) (hi : select s.params call = none) :
    step s = runCall call ((s.withCalls later).noted call) := by
  simp [step, invoke, hc, hp, hi]

end Sys2Proof.Machine
end

