-- ==== Sys2Proof/Tests/Slice0.lean ====
section
/-! SUPPORT. Tests. Expected results are the spec's own vectors (95_test_vectors S1 to S7, V1 to V107, P1 to P5), the
words of 30_encoding R83, or a count by hand; and for every statement with hypotheses, a state that meets them. -/

namespace Sys2Proof.Tests

open Sys2Proof.Machine Sys2Proof.Claims

/-- A machine at rest with these invocations ahead. -/
def ready (calls : List Call) : State := State.reset.withCalls calls

/-- A machine at this stage of an exchange, with these bytes arrived and these to come. -/
def linked (exchange : Exchange) (rx : Bytes) (wire : List WireEvent) (calls : List Call) : State :=
  ((ready calls).withReceive rx wire).withExchange exchange

/-- A machine whose device will answer the next writes so. -/
def answering (answers : List Answer) (calls : List Call) : State :=
  { ready calls with answers := answers }

/-- A query of StatusActualValues, as ENCODE gives it. -/
def statusQuery : Request := ⟨0x47, 11, false⟩

/-- A Send to SetValueVoltage, as ENCODE gives it. -/
def voltageSend : Request := ⟨0x32, 7, true⟩

/-- The result of one step, if it answers a next state. -/
def resultOf (o : Host.Outcome State Fault Refusal) : Option Result :=
  match o with
  | .next s => s.result
  | .fault _ => none
  | .refused _ => none

/-- The result of the last of `n` steps. -/
def resultAfter (n : Nat) (s : State) : Option Result := resultOf (Sys2Proof.core.run n s)

theorem standard_table : Params.standard.hasStandardTable := ⟨rfl, rfl, by decide⟩

/-! ### Well-formedness: an ill-formed term for the one check -/

theorem test_wellFormed_reply_accepts : (Instr.replyManufacturer [1, 2, 3, 4, 5, 6, 7, 8]).wellFormed = true := by decide

theorem test_wellFormed_reply_refuses : (Instr.replyManufacturer [1, 2, 3, 4, 5, 6, 7]).wellFormed = false := by decide

/-! ### Decoding: the header words of 30_encoding R83, bit by bit, one per request row -/

theorem test_decode_queryDeviceType :
    decodeTableWord 24 0b01111111_00000001_00000000 = some (.queryDeviceType 0x01) := by decide

theorem test_decode_querySerialNumber :
    decodeTableWord 24 0b01111111_00000001_00000001 = some (.querySerialNumber 0x01) := by decide

theorem test_decode_queryNominalVoltage :
    decodeTableWord 24 0b01110011_00000001_00000010 = some (.queryNominalVoltage 0x01) := by decide

theorem test_decode_queryNominalCurrent :
    decodeTableWord 24 0b01110011_00000001_00000011 = some (.queryNominalCurrent 0x01) := by decide

theorem test_decode_queryNominalPower :
    decodeTableWord 24 0b01110011_00000001_00000100 = some (.queryNominalPower 0x01) := by decide

theorem test_decode_queryArticleNumber :
    decodeTableWord 24 0b01111111_00000001_00000110 = some (.queryArticleNumber 0x01) := by decide

theorem test_decode_queryManufacturer :
    decodeTableWord 24 0b01111111_00000001_00001000 = some (.queryManufacturer 0x01) := by decide

theorem test_decode_querySoftwareVersion :
    decodeTableWord 24 0b01111111_00000001_00001001 = some (.querySoftwareVersion 0x01) := by decide

theorem test_decode_queryDeviceClass :
    decodeTableWord 24 0b01110001_00000001_00010011 = some (.queryDeviceClass 0x01) := by decide

theorem test_decode_queryOvpThreshold :
    decodeTableWord 24 0b01110001_00000001_00100110 = some (.queryOvpThreshold 0x01) := by decide

theorem test_decode_queryOcpThreshold :
    decodeTableWord 24 0b01110001_00000001_00100111 = some (.queryOcpThreshold 0x01) := by decide

theorem test_decode_querySetValueVoltage :
    decodeTableWord 24 0b01110001_00000001_00110010 = some (.querySetValueVoltage 0x01) := by decide

theorem test_decode_querySetValueCurrent :
    decodeTableWord 24 0b01110001_00000001_00110011 = some (.querySetValueCurrent 0x01) := by decide

theorem test_decode_queryPowerSupplyControl :
    decodeTableWord 24 0b01110001_00000001_00110110 = some (.queryPowerSupplyControl 0x01) := by decide

theorem test_decode_queryStatusActualValues :
    decodeTableWord 24 0b01111010_00000001_01000111 = some (.queryStatusActualValues 0x01) := by decide

theorem test_decode_queryStatusSetValues :
    decodeTableWord 24 0b01111010_00000001_01001000 = some (.queryStatusSetValues 0x01) := by decide

theorem test_decode_sendOvpThreshold :
    decodeTableWord 24 0b11110001_00000001_00100110 = some (.sendOvpThreshold 0x01 0x00 0x00) := by decide

theorem test_decode_sendOcpThreshold :
    decodeTableWord 24 0b11110001_00000001_00100111 = some (.sendOcpThreshold 0x01 0x00 0x00) := by decide

theorem test_decode_sendSetValueVoltage :
    decodeTableWord 24 0b11110001_00000001_00110010 = some (.sendSetValueVoltage 0x01 0x00 0x00) := by decide

theorem test_decode_sendSetValueCurrent :
    decodeTableWord 24 0b11110001_00000001_00110011 = some (.sendSetValueCurrent 0x01 0x00 0x00) := by decide

theorem test_decode_sendPowerSupplyControl :
    decodeTableWord 24 0b11110001_00000001_00110110 = some (.sendPowerSupplyControl 0x01 0x00 0x00) := by decide

/-! ### Reply forms are selected by the register (30_encoding R84), here by its code in 20_memory R47 -/

theorem test_select_replyDeviceType :
    decodeReplyForm Params.standard 0x00 [0xAA] = some (.replyDeviceType [0xAA]) := by decide

theorem test_select_replySerialNumber :
    decodeReplyForm Params.standard 0x01 [0xAA] = some (.replySerialNumber [0xAA]) := by decide

theorem test_select_replyNominalVoltage :
    decodeReplyForm Params.standard 0x02 [0xAA] = some (.replyNominalVoltage [0xAA]) := by decide

theorem test_select_replyNominalCurrent :
    decodeReplyForm Params.standard 0x03 [0xAA] = some (.replyNominalCurrent [0xAA]) := by decide

theorem test_select_replyNominalPower :
    decodeReplyForm Params.standard 0x04 [0xAA] = some (.replyNominalPower [0xAA]) := by decide

theorem test_select_replyArticleNumber :
    decodeReplyForm Params.standard 0x06 [0xAA] = some (.replyArticleNumber [0xAA]) := by decide

theorem test_select_replyManufacturer :
    decodeReplyForm Params.standard 0x08 [0xAA] = some (.replyManufacturer [0xAA]) := by decide

theorem test_select_replySoftwareVersion :
    decodeReplyForm Params.standard 0x09 [0xAA] = some (.replySoftwareVersion [0xAA]) := by decide

theorem test_select_replyDeviceClass :
    decodeReplyForm Params.standard 0x13 [0xAA] = some (.replyDeviceClass [0xAA]) := by decide

theorem test_select_replyOvpThreshold :
    decodeReplyForm Params.standard 0x26 [0xAA] = some (.replyOvpThreshold [0xAA]) := by decide

theorem test_select_replyOcpThreshold :
    decodeReplyForm Params.standard 0x27 [0xAA] = some (.replyOcpThreshold [0xAA]) := by decide

theorem test_select_replySetValueVoltage :
    decodeReplyForm Params.standard 0x32 [0xAA] = some (.replySetValueVoltage [0xAA]) := by decide

theorem test_select_replySetValueCurrent :
    decodeReplyForm Params.standard 0x33 [0xAA] = some (.replySetValueCurrent [0xAA]) := by decide

theorem test_select_replyPowerSupplyControl :
    decodeReplyForm Params.standard 0x36 [0xAA] = some (.replyPowerSupplyControl [0xAA]) := by decide

theorem test_select_replyStatusActualValues :
    decodeReplyForm Params.standard 0x47 [0xAA] = some (.replyStatusActualValues [0xAA]) := by decide

theorem test_select_replyStatusSetValues :
    decodeReplyForm Params.standard 0x48 [0xAA] = some (.replyStatusSetValues [0xAA]) := by decide

theorem test_decode_truncated : decode Params.standard [0x73, 0x00, 0x02, 0x00] = .error .truncated := by rfl

theorem test_decode_length_field : decode Params.standard [0x71, 0x00, 0x02, 0x00, 0x73] = .error .lengthField := by rfl

theorem test_decode_read_only_send : decode Params.standard [0xF1, 0x00, 0x13, 0, 0, 0, 0] = .error .noSendForm := by rfl

theorem test_decode_unicast : decode Params.standard [0x53, 0x00, 0x02, 0x00, 0x55] = .error .castType := by rfl

/-! ### Forms: the frames of V20 to V35 and V60 to V69, run by `step` as the first instruction after reset -/

theorem test_queryDeviceType : resultOf (step (State.reset.withFetchWord 24 0x7F0000))
    = some (.request [0x7F, 0x00, 0x00, 0x00, 0x7F] 17) := by decide

theorem test_querySerialNumber : resultOf (step (State.reset.withFetchWord 24 0x7F0001))
    = some (.request [0x7F, 0x00, 0x01, 0x00, 0x80] 16) := by decide

theorem test_queryNominalVoltage : resultOf (step (State.reset.withFetchWord 24 0x730002))
    = some (.request [0x73, 0x00, 0x02, 0x00, 0x75] 9) := by decide

theorem test_queryNominalCurrent : resultOf (step (State.reset.withFetchWord 24 0x730003))
    = some (.request [0x73, 0x00, 0x03, 0x00, 0x76] 9) := by decide

theorem test_queryNominalPower : resultOf (step (State.reset.withFetchWord 24 0x730004))
    = some (.request [0x73, 0x00, 0x04, 0x00, 0x77] 9) := by decide

theorem test_queryArticleNumber : resultOf (step (State.reset.withFetchWord 24 0x7F0006))
    = some (.request [0x7F, 0x00, 0x06, 0x00, 0x85] 14) := by decide

theorem test_queryManufacturer : resultOf (step (State.reset.withFetchWord 24 0x7F0008))
    = some (.request [0x7F, 0x00, 0x08, 0x00, 0x87] 8) := by decide

theorem test_querySoftwareVersion : resultOf (step (State.reset.withFetchWord 24 0x7F0009))
    = some (.request [0x7F, 0x00, 0x09, 0x00, 0x88] 21) := by decide

theorem test_queryDeviceClass : resultOf (step (State.reset.withFetchWord 24 0x710013))
    = some (.request [0x71, 0x00, 0x13, 0x00, 0x84] 7) := by decide

theorem test_queryOvpThreshold : resultOf (step (State.reset.withFetchWord 24 0x710026))
    = some (.request [0x71, 0x00, 0x26, 0x00, 0x97] 7) := by decide

theorem test_queryOcpThreshold : resultOf (step (State.reset.withFetchWord 24 0x710027))
    = some (.request [0x71, 0x00, 0x27, 0x00, 0x98] 7) := by decide

theorem test_querySetValueVoltage : resultOf (step (State.reset.withFetchWord 24 0x710032))
    = some (.request [0x71, 0x00, 0x32, 0x00, 0xA3] 7) := by decide

theorem test_querySetValueCurrent : resultOf (step (State.reset.withFetchWord 24 0x710033))
    = some (.request [0x71, 0x00, 0x33, 0x00, 0xA4] 7) := by decide

theorem test_queryPowerSupplyControl : resultOf (step (State.reset.withFetchWord 24 0x710036))
    = some (.request [0x71, 0x00, 0x36, 0x00, 0xA7] 7) := by decide

theorem test_queryStatusActualValues : resultOf (step (State.reset.withFetchWord 24 0x7A0047))
    = some (.request [0x7A, 0x00, 0x47, 0x00, 0xC1] 11) := by decide

theorem test_queryStatusSetValues : resultOf (step (State.reset.withFetchWord 24 0x7A0048))
    = some (.request [0x7A, 0x00, 0x48, 0x00, 0xC2] 11) := by decide

theorem test_sendSetValueVoltage : resultOf (exec (.sendSetValueVoltage 0xFF 0xFF 0xFF) State.reset)
    = some (.request [0xF1, 0xFF, 0x32, 0xFF, 0xFF, 0x04, 0x20] 7) := by decide

theorem test_sendOvpThreshold : resultOf (exec (.sendOvpThreshold 0x00 0x3C 0xB7) State.reset)
    = some (.request [0xF1, 0x00, 0x26, 0x3C, 0xB7, 0x02, 0x0A] 7) := by decide

theorem test_sendOcpThreshold : resultOf (exec (.sendOcpThreshold 0x00 0x3C 0xB7) State.reset)
    = some (.request [0xF1, 0x00, 0x27, 0x3C, 0xB7, 0x02, 0x0B] 7) := by decide

theorem test_sendSetValueCurrent : resultOf (exec (.sendSetValueCurrent 0x00 0x64 0x00) State.reset)
    = some (.request [0xF1, 0x00, 0x33, 0x64, 0x00, 0x01, 0x88] 7) := by decide

theorem test_sendPowerSupplyControl : resultOf (exec (.sendPowerSupplyControl 0x01 0x3C 0xB7) State.reset)
    = some (.request [0xF1, 0x01, 0x36, 0x3C, 0xB7, 0x02, 0x1B] 7) := by decide

/-- V40 to V55. -/
theorem test_replyDeviceType : resultOf (exec (.replyDeviceType
    [0x01, 0x08, 0x0F, 0x16, 0x1D, 0x24, 0x2B, 0x32, 0x39, 0x40, 0x47, 0x4E, 0x55, 0x5C, 0x63, 0x6A, 0x71]) State.reset)
    = some (.payload [0x16, 0x1D, 0x24, 0x2B, 0x32, 0x39, 0x40, 0x47, 0x4E, 0x55, 0x5C, 0x63]) := by decide

/-- V40 to V55. -/
theorem test_replySerialNumber : resultOf (exec (.replySerialNumber
    [0x01, 0x08, 0x0F, 0x16, 0x1D, 0x24, 0x2B, 0x32, 0x39, 0x40, 0x47, 0x4E, 0x55, 0x5C, 0x63, 0x6A]) State.reset)
    = some (.payload [0x16, 0x1D, 0x24, 0x2B, 0x32, 0x39, 0x40, 0x47, 0x4E, 0x55, 0x5C]) := by decide

/-- V40 to V55. -/
theorem test_replyNominalVoltage : resultOf (exec (.replyNominalVoltage
    [0x01, 0x08, 0x0F, 0x16, 0x1D, 0x24, 0x2B, 0x32, 0x39]) State.reset)
    = some (.payload [0x16, 0x1D, 0x24, 0x2B]) := by decide

/-- V40 to V55. -/
theorem test_replyNominalCurrent : resultOf (exec (.replyNominalCurrent
    [0x01, 0x08, 0x0F, 0x16, 0x1D, 0x24, 0x2B, 0x32, 0x39]) State.reset)
    = some (.payload [0x16, 0x1D, 0x24, 0x2B]) := by decide

/-- V40 to V55. -/
theorem test_replyNominalPower : resultOf (exec (.replyNominalPower
    [0x01, 0x08, 0x0F, 0x16, 0x1D, 0x24, 0x2B, 0x32, 0x39]) State.reset)
    = some (.payload [0x16, 0x1D, 0x24, 0x2B]) := by decide

/-- V40 to V55. -/
theorem test_replyArticleNumber : resultOf (exec (.replyArticleNumber
    [0x01, 0x08, 0x0F, 0x16, 0x1D, 0x24, 0x2B, 0x32, 0x39, 0x40, 0x47, 0x4E, 0x55, 0x5C]) State.reset)
    = some (.payload [0x16, 0x1D, 0x24, 0x2B, 0x32, 0x39, 0x40, 0x47, 0x4E]) := by decide

/-- V40 to V55. -/
theorem test_replyManufacturer : resultOf (exec (.replyManufacturer
    [0x01, 0x08, 0x0F, 0x16, 0x1D, 0x24, 0x2B, 0x32]) State.reset)
    = some (.payload [0x16, 0x1D, 0x24]) := by decide

/-- V40 to V55. -/
theorem test_replySoftwareVersion : resultOf (exec (.replySoftwareVersion
    [0x01, 0x08, 0x0F, 0x16, 0x1D, 0x24, 0x2B, 0x32, 0x39, 0x40, 0x47, 0x4E, 0x55, 0x5C, 0x63, 0x6A, 0x71, 0x78, 0x7F, 0x86, 0x8D]) State.reset)
    = some (.payload [0x16, 0x1D, 0x24, 0x2B, 0x32, 0x39, 0x40, 0x47, 0x4E, 0x55, 0x5C, 0x63, 0x6A, 0x71, 0x78, 0x7F]) := by decide

/-- V40 to V55. -/
theorem test_replyDeviceClass : resultOf (exec (.replyDeviceClass
    [0x01, 0x08, 0x0F, 0x16, 0x1D, 0x24, 0x2B]) State.reset)
    = some (.payload [0x16, 0x1D]) := by decide

/-- V40 to V55. -/
theorem test_replyOvpThreshold : resultOf (exec (.replyOvpThreshold
    [0x01, 0x08, 0x0F, 0x16, 0x1D, 0x24, 0x2B]) State.reset)
    = some (.payload [0x16, 0x1D]) := by decide

/-- V40 to V55. -/
theorem test_replyOcpThreshold : resultOf (exec (.replyOcpThreshold
    [0x01, 0x08, 0x0F, 0x16, 0x1D, 0x24, 0x2B]) State.reset)
    = some (.payload [0x16, 0x1D]) := by decide

/-- V40 to V55. -/
theorem test_replySetValueVoltage : resultOf (exec (.replySetValueVoltage
    [0x01, 0x08, 0x0F, 0x16, 0x1D, 0x24, 0x2B]) State.reset)
    = some (.payload [0x16, 0x1D]) := by decide

/-- V40 to V55. -/
theorem test_replySetValueCurrent : resultOf (exec (.replySetValueCurrent
    [0x01, 0x08, 0x0F, 0x16, 0x1D, 0x24, 0x2B]) State.reset)
    = some (.payload [0x16, 0x1D]) := by decide

/-- V40 to V55. -/
theorem test_replyPowerSupplyControl : resultOf (exec (.replyPowerSupplyControl
    [0x01, 0x08, 0x0F, 0x16, 0x1D, 0x24, 0x2B]) State.reset)
    = some (.payload [0x16, 0x1D]) := by decide

/-- V40 to V55. -/
theorem test_replyStatusActualValues : resultOf (exec (.replyStatusActualValues
    [0x01, 0x08, 0x0F, 0x16, 0x1D, 0x24, 0x2B, 0x32, 0x39, 0x40, 0x47]) State.reset)
    = some (.payload [0x16, 0x1D, 0x24, 0x2B, 0x32, 0x39]) := by decide

/-- V40 to V55. -/
theorem test_replyStatusSetValues : resultOf (exec (.replyStatusSetValues
    [0x01, 0x08, 0x0F, 0x16, 0x1D, 0x24, 0x2B, 0x32, 0x39, 0x40, 0x47]) State.reset)
    = some (.payload [0x16, 0x1D, 0x24, 0x2B, 0x32, 0x39]) := by decide

/-! ### Units and calls -/

/-- V17: a gap inside the listed range. -/
theorem test_lookup_gap : resultOf (step (ready [.lookup 0x05])) = some (.error .unknownRegister) := by decide

/-- V8. -/
theorem test_lookup_softwareVersion : resultOf (step (ready [.lookup 0x09])) = some (.entry ⟨16, 21, false⟩) := by decide

/-- V39: the checksum carries into its high byte. -/
theorem test_encode_carry : resultOf (step (ready [.encode 0x09 0xFF none]))
    = some (.request [0x7F, 0xFF, 0x09, 0x01, 0x87] 21) := by decide

/-- V70: present, empty, writable. -/
theorem test_encode_empty_payload : resultOf (step (ready [.encode 0x32 0x00 (some [])]))
    = some (.request [0x71, 0x00, 0x32, 0x00, 0xA3] 7) := by decide

/-- V71 (S7). -/
theorem test_encode_short_payload : resultOf (step (ready [.encode 0x32 0x00 (some [0x01])]))
    = some (.error .payloadLengthMismatch) := by decide

/-- V72. -/
theorem test_encode_long_payload : resultOf (step (ready [.encode 0x32 0x00 (some [1, 2, 3])]))
    = some (.error .payloadLengthMismatch) := by decide

/-- V74: a read-only register takes no payload and raises nothing. -/
theorem test_encode_read_only : resultOf (step (ready [.encode 0x13 0x00 (some [0x01])]))
    = some (.request [0x71, 0x00, 0x13, 0x00, 0x84] 7) := by decide

/-- V78: the order of checks. -/
theorem test_encode_unlisted_first : resultOf (step (ready [.encode 0x05 0x00 (some [0x01])]))
    = some (.error .unknownRegister) := by decide

/-- V59: the length the size class would suggest. -/
theorem test_decode_size_class_length : resultOf (step (ready [.decode 0x47 (List.replicate 16 0)]))
    = some (.error .replyLengthMismatch) := by decide

/-- V82: the order of checks. -/
theorem test_decode_unlisted_first : resultOf (step (ready [.decode 0x05 []])) = some (.error .unknownRegister) := by decide

/-- V84: a wrong checksum is accepted. -/
theorem test_decode_wrong_checksum : resultOf (step (ready [.decode 0x02 [0x03, 0, 0x02, 0x42, 0x28, 0, 0, 0xFF, 0xFF]]))
    = some (.payload [0x42, 0x28, 0x00, 0x00]) := by decide

/-- A machine in strict mode. -/
def strict (calls : List Call) : State :=
  { ready calls with params := { Params.standard with strictReplyChecksum := true } }

/-- V87. -/
theorem test_strict_accepts : resultOf (step (strict [.decode 0x02 [0x03, 0, 0x02, 0x42, 0x28, 0, 0, 0x00, 0x6F]]))
    = some (.payload [0x42, 0x28, 0x00, 0x00]) := by decide

/-- V87. -/
theorem test_strict_rejects : resultOf (step (strict [.decode 0x02 [0x03, 0, 0x02, 0x42, 0x28, 0, 0, 0xFF, 0xFF]]))
    = some (.error .replyChecksumMismatch) := by decide

/-- A machine with the literal reply size 2 (92_eei_decisions D5). -/
def sizeTwo (calls : List Call) : State :=
  { ready calls with params := { Params.standard with catalog := catalogWith 2 } }

theorem test_size_two_decodes_nothing : resultOf (step (sizeTwo [.decode 0x13 [0x00, 0x10]]))
    = some (.error .replyLengthMismatch) := by decide

theorem test_size_two_expected_length : resultOf (step (sizeTwo [.encode 0x13 0x00 none]))
    = some (.request [0x71, 0x00, 0x13, 0x00, 0x84] 2) := by decide

/-- A machine whose Catalog has a size class that does not fit the length field. -/
def outsized : State :=
  { State.reset with params := { Params.standard with
      catalog := { catalogWith 7 with deviceType := ⟨17, 17, false⟩ } } }

theorem test_outsized_catalog_refused : exec (.queryDeviceType 0x00) outsized = .refused .catalogNotAdmitted := by rfl

theorem test_size_sixteen_admitted : Params.standard.admitted = true := by decide

/-- 92_eei_decisions D5: the literal 2 is one parameter, so not one scalar's alone. -/
theorem test_one_scalar_at_two_not_admitted :
    { Params.standard with catalog := { catalogWith 7 with deviceClass := ⟨2, 2, false⟩ } }.admitted = false := by decide

/-- A machine with the input bounds of 92_eei_decisions D2 at their least. -/
def bounded (calls : List Call) : State :=
  { ready calls with params := { Params.standard with payloadInMax := some 16, replyInMax := some 21 } }

theorem test_payload_beyond_bound : step (bounded [.encode 0x32 0x00 (some (List.replicate 17 0))])
    = .refused .inputNotPresentable := by rfl

theorem test_repeated_code_not_admitted :
    { Params.standard with regCode := { defaultRegCode with deviceType := 0x01 } }.admitted = false := by decide

/-! ### Exchanges -/

/-- The outcome is a next state of which `p` holds. -/
def holds (o : Host.Outcome State Fault Refusal) (p : State → Bool) : Bool :=
  match o with
  | .next s => p s
  | .fault _ => false
  | .refused _ => false

/-- P1, with the reply the program assumes. -/
theorem test_memRead_p1 : resultOf (step (answering [⟨[.arrive [0x03, 0, 0x02, 0x42, 0x28, 0, 0, 0x00, 0x6F]], []⟩]
    [.memRead output1 0x02])) = some (.payload [0x42, 0x28, 0x00, 0x00]) := by decide

/-- P2, by its own steps: after the drain the exchange is over, the link in step and nothing unread. -/
theorem test_write_mode_exchange_p2 :
    holds (Sys2Proof.core.run 5 (answering [⟨[.arrive [0, 0, 0], .arrive [0, 0, 0, 0]], [.arrive [0xAA, 0xBB]]⟩]
        [.encode 0x32 output1 (some [0x3C, 0xB7]), .write [0xF1, 0x00, 0x32, 0x3C, 0xB7, 0x02, 0x16], .read 7,
          .decode 0x32 [0, 0, 0, 0, 0, 0, 0], .drain]))
      (fun s => s.link == .synchronised && s.exchange == .none && s.quiet
        && s.tx == [0xF1, 0x00, 0x32, 0x3C, 0xB7, 0x02, 0x16]) = true := by decide

/-- P2: without the drain the acknowledgement is what the next read returns. -/
theorem test_missed_drain : resultOf (step (linked .drainDue [0xAA, 0xBB] [] [.read 2]))
    = some (.received [0xAA, 0xBB]) := by decide

/-- An acknowledgement that comes after the drain is unread when the next request is written (70_reset_and_hazards
R278). -/
theorem test_late_acknowledgement : holds (Sys2Proof.core.run 2 (linked .drainDue [] [.pause, .arrive [0xAA]]
    [.drain, .write [0x71, 0x00, 0x13, 0x00, 0x84]])) (fun s => s.link == .desynchronised) = true := by decide

/-- 10_state R34 (a): the device sends eight bytes where seven are expected. -/
theorem test_surplus_reply_byte : holds (step (linked (.written ⟨0x13, 7, false⟩ 8) [] [.arrive (List.replicate 8 0)]
    [.read 7])) (fun s => s.link == .desynchronised && s.rx == [0]) = true := by decide

/-- P4: 16 bytes where 11 are sent and no timeout. -/
theorem test_read_blocks : step (linked (.written statusQuery 11) [] [.arrive (List.replicate 11 0)] [.read 16])
    = .fault .readBlocked := by rfl

/-- P4: the same with a timeout. -/
theorem test_read_times_out : resultOf (step (linked (.written statusQuery 11) []
    [.arrive (List.replicate 11 0), .readFault 0] [.read 16])) = some (.error .transport) := by decide

/-- 70_reset_and_hazards R285: a failed step ends a query, and leaves the drain of a Send due. -/
theorem test_failed_send_needs_its_drain :
    holds (step (linked (.written voltageSend 7) [] [.readFault 0] [.read 7])) (fun s => s.exchange == .drainDue) = true
    ∧ holds (step (linked (.written statusQuery 11) [] [.readFault 0] [.read 11])) (fun s => s.exchange == .none) = true := by
  decide

theorem test_memWrite_read_only_is_query : holds (step (answering [⟨[.arrive [1, 8, 15, 22, 29, 36, 43]], []⟩]
    [.memWrite output1 0x13 [0x00, 0x10] false]))
      (fun s => s.tx == [0x71, 0x00, 0x13, 0x00, 0x84] && s.link == .synchronised && s.exchange == .none) = true := by decide

/-! ### Helpers (V90 to V107) -/

theorem test_pct16_s2 : pct16Encode .exact (51 / 2) 42 = some 0x3CB7 := by
  have h : percentRaw (51 / 2) 42 = 15543 := by
    rw [percentRaw, pctScale, Int.ceil_eq_iff]
    norm_num
  rw [pct16Encode, percentRawIn, h, if_pos ⟨by norm_num, by norm_num, by norm_num⟩]
  rfl

/-- 43_value_helpers R225: "DOC's example is safe under either". -/
theorem test_pct16_s2_in_software : pct16Encode .softwareFloat (51 / 2) 42 = some 0x3CB7 := by
  have hlow : -(1 / 7) ≤ quotientError (51 / 2) 42 := le_max_left _ _
  have hhigh : quotientError (51 / 2) 42 ≤ 1 / 7 :=
    max_le (by norm_num [quotientErrorBound]) (min_le_left _ _)
  have h : percentRawIn .softwareFloat (51 / 2) 42 = 15543 := by
    rw [percentRawIn, pctScale, Int.ceil_eq_iff]
    push_cast
    constructor <;> linarith
  rw [pct16Encode, h, if_pos ⟨by norm_num, by norm_num, by norm_num⟩]
  rfl

/-- V95: nearest and floor would give 8533. -/
theorem test_pct16_third : percentRaw 1 3 = 8534 := by
  rw [percentRaw, pctScale, Int.ceil_eq_iff]
  norm_num

/-- V99: does not fit 16 bits. -/
theorem test_pct16_too_large : pct16Encode .exact 84 32 = none := by
  have h : percentRaw 84 32 = 67200 := by
    rw [percentRaw, pctScale, Int.ceil_eq_iff]
    norm_num
  rw [pct16Encode, percentRawIn, h, if_neg (by norm_num)]

/-- V100. -/
theorem test_pct16_zero_nominal : pct16Encode .exact 1 0 = none := by
  rw [pct16Encode, if_neg (by norm_num)]

/-- V102. -/
theorem test_pct16_decode : pct16Decode .exact 0x64 0x00 42 = 42 := by
  have h : (unbe16 [(0x64 : Byte), 0x00] : Nat) = 25600 := rfl
  simp only [pct16Decode, h, pctScale]
  norm_num

/-- V104. -/
theorem test_float32_42 : float32Bits 0x42 0x28 0x00 0x00 = 0x42280000 := by decide

/-- V104. -/
theorem test_float32_value_42 : float32Value? 0x42280000 = some 42 := by
  have h1 : (0x42280000 : BitVec 32).getLsbD 31 = false := by decide
  have h2 : ((0x42280000 : BitVec 32).extractLsb' 23 8).toNat = 132 := by decide
  have h3 : ((0x42280000 : BitVec 32).extractLsb' 0 23).toNat = 2621440 := by decide
  simp only [float32Value?, h1, h2, h3]
  norm_num

/-! ### Witnesses: for every statement with hypotheses, inputs that meet them together -/

theorem witness_LookupAnswersEntryOrUnknown : State.reset.params.admitted = true
    ∧ State.reset.params.regCode.get .statusSetValues = 0x48 ∧ (∀ r, State.reset.params.regCode.get r ≠ 0xFF)
    ∧ (ready [.lookup 0x48]).calls = [.lookup 0x48] ∧ (ready [.lookup 0xFF]).calls = [.lookup 0xFF] :=
  ⟨by decide, rfl, fun r => by cases r <;> decide, rfl, rfl⟩

theorem witness_ProjectionsFollowLookup : lookup Params.standard 0x02 = .ok ⟨4, 9, false⟩
    ∧ lookup Params.standard 0x05 = .error .unknownRegister := ⟨rfl, rfl⟩

theorem witness_StartDelimiterNeverCarries : (startDelimiter .query 16).toNat = 0x7F
    ∧ (startDelimiter .write 1).toNat = 0xF0 := by decide

theorem witness_WriteGateTruthTable : Params.standard.admitted = true
    ∧ (Params.standard.entry .deviceClass).writable = false ∧ (Params.standard.entry .ovpThreshold).writable = true
    ∧ ([1, 2] : Bytes).length = (Params.standard.entry .ovpThreshold).allocatedPayloadSize
    ∧ ([1] : Bytes).length ≠ (Params.standard.entry .ovpThreshold).allocatedPayloadSize := by decide

theorem witness_ChecksumIsSumOfEarlierBytes :
    encodeRequest Params.standard 0x02 0x00 none = .ok ([0x73, 0x00, 0x02, 0x00, 0x75], 9) := by rfl

theorem witness_FrameShape : Params.standard.admitted = true
    ∧ encodeRequest Params.standard 0x32 0xFF (some [0xFF, 0xFF]) = .ok ([0xF1, 0xFF, 0x32, 0xFF, 0xFF, 0x04, 0x20], 7) :=
  ⟨by decide, rfl⟩

theorem witness_FrameDeterminesInputs : Params.standard.admitted = true
    ∧ encodeRequest Params.standard 0x13 0x00 (some [1, 2]) = .ok ([0x71, 0x00, 0x13, 0x00, 0x84], 7)
    ∧ encodeRequest Params.standard 0x13 0x00 none = .ok ([0x71, 0x00, 0x13, 0x00, 0x84], 7)
    ∧ encodeRequest Params.standard 0x32 0x00 (some [0, 0]) = .ok ([0xF1, 0x00, 0x32, 0x00, 0x00, 0x01, 0x23], 7)
    ∧ messageType 0xF1 = sendType :=
  ⟨by decide, rfl, rfl, rfl, by decide⟩

theorem witness_OnlyFiveStartDelimiters : Params.standard.hasStandardTable
    ∧ encodeRequest Params.standard 0x48 0xFF none = .ok ([0x7A, 0xFF, 0x48, 0x01, 0xC1], 11) :=
  ⟨standard_table, rfl⟩

theorem witness_ChecksumNeverWraps : Params.standard.admitted = true ∧ Params.standard.hasStandardTable
    ∧ encodeRequest Params.standard 0x36 0xFF (some [0xFF, 0xFF]) = .ok ([0xF1, 0xFF, 0x36, 0xFF, 0xFF, 0x04, 0x24], 7) :=
  ⟨by decide, standard_table, rfl⟩

theorem witness_QueryNominalVoltageCompletes : State.reset.params.admitted = true
    ∧ State.reset.params.entry .nominalVoltage = ⟨4, 9, false⟩ := by decide

/-- For QueryStringFormsComplete, QueryRatingFormsComplete, QueryScalarFormsComplete, QueryStatusFormsComplete. -/
theorem witness_QueryForms : State.reset.params.hasStandardTable := standard_table

theorem witness_SendFormsComplete : State.reset.params.hasStandardTable ∧ ([1] : Bytes) ≠ [] ∧ ([1] : Bytes).length ≠ 2
    ∧ ([1, 2, 3] : Bytes).length ≠ 2 ∧ withinBound State.reset.params.payloadInMax 1 = true
    ∧ (List.replicate 7 (0 : Byte)).length = 7
    ∧ (ready [.encode 0x26 0x00 (some [1])]).calls = [.encode 0x26 0x00 (some [1])] :=
  ⟨standard_table, by decide, by decide, by decide, rfl, rfl, rfl⟩

/-- For ReplyStringFormsComplete, ReplyRatingFormsComplete, ReplyScalarFormsComplete, ReplyStatusFormsComplete. -/
theorem witness_ReplyForms : State.reset.params.hasStandardTable ∧ State.reset.params.strictReplyChecksum = false
    ∧ ([1, 2] : Bytes).length + 5 = 7 ∧ (List.replicate 16 (0 : Byte)).length + 5 = 21
    ∧ ([] : Bytes).length ≠ 7 ∧ (List.replicate 8 (0 : Byte)).length ≠ 7 :=
  ⟨standard_table, by decide⟩

theorem witness_ReplyTakenVerbatimByLength : State.reset.params.admitted = true
    ∧ State.reset.params.strictReplyChecksum = false
    ∧ ([1, 2, 3, 4, 5, 6, 7] : Bytes).length = (State.reset.params.entry .deviceClass).replyFrameSize
    ∧ 5 ≤ ([1, 2, 3, 4, 5, 6, 7] : Bytes).length
    ∧ ([0, 16] : Bytes).length ≠ (State.reset.params.entry .deviceClass).replyFrameSize
    ∧ ([1, 2, 3, 4, 5, 6, 7] : Bytes) = 1 :: 2 :: 3 :: [4, 5] ++ [6, 7] := by decide

theorem witness_DecodeLaws : Params.standard.strictReplyChecksum = false
    ∧ decodeReply Params.standard 0x32 [9, 9, 9, 0x3C, 0xB7, 9, 9] = .ok [0x3C, 0xB7]
    ∧ ([8, 8, 8, 0x3C, 0xB7, 8, 8] : Bytes).length = ([9, 9, 9, 0x3C, 0xB7, 9, 9] : Bytes).length
    ∧ (([8, 8, 8, 0x3C, 0xB7, 8, 8] : Bytes).take 5).drop 3 = (([9, 9, 9, 0x3C, 0xB7, 9, 9] : Bytes).take 5).drop 3 :=
  ⟨rfl, rfl, by decide, by decide⟩

theorem witness_EncodeThenDecodeRoundTrip : Params.standard.strictReplyChecksum = false
    ∧ encodeRequest Params.standard 0x08 0x00 none = .ok ([0x7F, 0x00, 0x08, 0x00, 0x87], 8)
    ∧ (List.replicate 8 (0 : Byte)).length = 8
    ∧ encodeRequest Params.standard 0x32 0x00 (some [0x3C, 0xB7]) = .ok ([0xF1, 0x00, 0x32, 0x3C, 0xB7, 0x02, 0x16], 7) :=
  ⟨rfl, rfl, rfl, rfl⟩

theorem witness_TooShortReplySizeDecodesNothing : (sizeTwo []).params.admitted = true
    ∧ ((sizeTwo []).params.entry .powerSupplyControl).replyFrameSize < 5 := by decide

theorem witness_StrictModeChecksTheSum : (strict []).params.admitted = true
    ∧ (strict []).params.strictReplyChecksum = true
    ∧ ([0, 0, 0, 1, 0, 0, 1] : Bytes).length = ((strict []).params.entry .deviceClass).replyFrameSize
    ∧ unbe16 (([0, 0, 0, 1, 0, 0, 1] : Bytes).drop 5) = byteSum (([0, 0, 0, 1, 0, 0, 1] : Bytes).take 5) % 65536
    ∧ unbe16 (([0, 0, 0, 1, 0, 0, 2] : Bytes).drop 5) ≠ byteSum (([0, 0, 0, 1, 0, 0, 2] : Bytes).take 5) % 65536 := by decide

theorem witness_WrongRegisterSameSizePasses : State.reset.params.admitted = true
    ∧ (List.replicate 11 (0 : Byte)).length = (State.reset.params.entry .statusActualValues).replyFrameSize
    ∧ (State.reset.params.entry .statusSetValues).replyFrameSize
      = (State.reset.params.entry .statusActualValues).replyFrameSize
    ∧ (State.reset.params.entry .nominalVoltage).replyFrameSize
      ≠ (State.reset.params.entry .statusActualValues).replyFrameSize := by decide

theorem witness_UnknownRegisterComesFirst : State.reset.params.admitted = true
    ∧ (∀ r, State.reset.params.regCode.get r ≠ 0x05)
    ∧ presentable State.reset.params (.encode 0x05 0 (some [1])) = true
    ∧ (ready [.encode 0x05 0 (some [1])]).calls = [.encode 0x05 0 (some [1])]
    ∧ presentable State.reset.params (.decode 0x05 []) = true ∧ (ready [.decode 0x05 []]).calls = [.decode 0x05 []] :=
  ⟨by decide, fun r => by cases r <;> decide, rfl, rfl, rfl, rfl⟩

theorem witness_FormsChangeOnlyTheResult : exec (.queryNominalVoltage 0x00) State.reset
    = .next (State.reset.deliver (.request [0x73, 0x00, 0x02, 0x00, 0x75] 9)) := by rfl

theorem witness_FormsNeedAnAdmittedCatalog : State.reset.params.admitted = true ∧ outsized.params.admitted = false := by
  decide

/-- The link out of step and a byte unread. -/
def outOfStep (calls : List Call) : State := (linked .none [1] [] calls).withLink .desynchronised

theorem witness_ResultsIgnoreHistory : (outOfStep []).params = State.reset.params
    ∧ exec (.queryNominalVoltage 0x00) (outOfStep [])
      = .next ((outOfStep []).deliver (.request [0x73, 0x00, 0x02, 0x00, 0x75] 9)) := ⟨rfl, rfl⟩

theorem witness_FormsReportTheirOwnErrors :
    exec (.replyDeviceClass [0x00, 0x10]) State.reset = .next (State.reset.raise .replyLengthMismatch) := by rfl

theorem witness_EncoderEmitsTheWireForm_DecodeInvertsEncode : State.reset.params.admitted = true
    ∧ RequestFits State.reset.params (.queryDeviceType 0xFF)
    ∧ RequestFits State.reset.params (.sendPowerSupplyControl 0xFF 0xFF 0xFF) :=
  ⟨by decide, trivial, by decide, by decide⟩

theorem witness_EveryFormReadBack : (Instr.queryDeviceType 0xFF).wellFormed = true
    ∧ (Instr.sendOvpThreshold 1 2 3).wellFormed = true
    ∧ (Instr.replyDeviceClass [1, 2, 3, 4, 5, 6, 7]).wellFormed = true := by decide

theorem witness_EncodeInvertsDecode : Params.standard.admitted = true
    ∧ decode Params.standard ([0x73, 0x00, 0x02, 0x00, 0x75] ++ [0xAA]) = .ok (.queryNominalVoltage 0x00, [0xAA])
    ∧ ([0x73, 0x00, 0x02, 0x00, 0x75] : Bytes).drop 3 = be16 (checksum [0x73, 0x00, 0x02]) :=
  ⟨by decide, rfl, by decide⟩

theorem witness_ReservedTelegramsRefused :
    (ready [.wireForm [0xB3, 0, 2, 0, 0]]).calls = [.wireForm [0xB3, 0, 2, 0, 0]]
    ∧ messageType 0xB3 = 2 ∧ messageType 0x33 = 0 ∧ castType 0x53 = 0 ∧ direction 0x63 = 0
    ∧ ∀ r, State.reset.params.regCode.get r ≠ 0x05 :=
  ⟨rfl, by decide, by decide, by decide, by decide, fun r => by cases r <;> decide⟩

theorem witness_StepRunsTheSelectedForm :
    select Params.standard (.encode 0x02 0x00 none) = some (.queryNominalVoltage 0x00)
    ∧ presentable Params.standard (.encode 0x02 0x00 none) = true
    ∧ decode Params.standard [0x73, 0x00, 0x02, 0x00, 0x75] = .ok (.queryNominalVoltage 0x00, [])
    ∧ decodeReplyForm Params.standard 0x02 [1] = some (.replyNominalVoltage [1])
    ∧ withinBound Params.standard.replyInMax 1 = true
    ∧ (ready [.encode 0x02 0x00 none]).calls = [.encode 0x02 0x00 none] := ⟨rfl, rfl, rfl, rfl, rfl, rfl⟩

theorem witness_StepIsTheUnitOperation : (ready [.decode 0x02 [1]]).calls = [.decode 0x02 [1]]
    ∧ presentable (ready []).params (.decode 0x02 [1]) = true
    ∧ resultOf (step (ready [.decode 0x02 [1]])) = some (.error .replyLengthMismatch) := ⟨rfl, rfl, by decide⟩

theorem witness_InputBoundsRefuseLongInputs : (bounded []).params.admitted = true
    ∧ (bounded [.decode 0x02 (List.replicate 22 0)]).calls = [.decode 0x02 (List.replicate 22 0)]
    ∧ presentable (bounded []).params (.decode 0x02 (List.replicate 22 0)) = false
    ∧ presentable (bounded []).params (.encode 0x32 0x00 (some (List.replicate 17 0))) = false
    ∧ (bounded []).params.regOf? 0x32 = some .setValueVoltage
    ∧ ((bounded []).params.entry .setValueVoltage).writable = true
    ∧ presentable (bounded []).params (.encode 0x13 0x00 (some (List.replicate 17 0))) = false
    ∧ (bounded []).params.regOf? 0x13 = some .deviceClass ∧ ((bounded []).params.entry .deviceClass).writable = false
    ∧ presentable (bounded []).params (.encode 0x05 0x00 (some (List.replicate 17 0))) = false
    ∧ (bounded []).params.regOf? 0x05 = none
    ∧ (List.replicate 21 (0 : Byte)).length = ((bounded []).params.entry .softwareVersion).replyFrameSize
    ∧ (List.replicate 16 (0 : Byte)).length = ((bounded []).params.entry .softwareVersion).allocatedPayloadSize
    ∧ State.reset.params.payloadInMax = none ∧ State.reset.params.replyInMax = none := by decide

theorem witness_NoStepWithoutInvocation : State.reset.calls = []
    ∧ step (ready [.u16Bytes 1]) = .next ((ready []).deliver (.payload [0, 1])) := ⟨rfl, rfl⟩

theorem witness_CatalogIsReadOnly : step (bounded [.reset]) = .next (bounded []) := rfl

theorem witness_StepKeepsInvariant : State.Inv (linked (.written statusQuery 11) [1] [] [.read 1])
    ∧ step (linked (.written statusQuery 11) [1] [] [.read 1])
      = .next (((linked (.written statusQuery 11) [] [] []).withLink .desynchronised).deliver (.received [1])) :=
  ⟨⟨by decide, (fun r h => by cases h), ⟨Reg.statusActualValues, rfl, rfl, fun h => by cases h⟩⟩, rfl⟩

theorem witness_DesynchronisedForever : (outOfStep [.drain]).link = .desynchronised
    ∧ step (outOfStep [.drain])
      = .next ((((linked .none [] [] []).withLink .desynchronised)).deliver .drained) :=
  ⟨rfl, rfl⟩

/-- A caller that keeps its duties, a device that keeps its contract, and the link in step: at rest, with a reply
awaited, with a reply read, with a drain due. -/
theorem witness_DutifulCallerKeepsTheLink : State.reset.params.admitted = true ∧ State.reset.inStep
    ∧ (let s := answering [⟨[.arrive (List.replicate 7 0)], [.arrive [9]]⟩] []
      s.inStep
      ∧ (∀ call ∈ [Call.write [0xF1, 0x00, 0x32, 0x3C, 0xB7, 0x02, 0x16], .memRead 0 0x13, .memWrite 0 0x13 [1, 2] true],
        respectsDuties s call = true)
      ∧ deviceKeepsContract s (.write [0xF1, 0x00, 0x32, 0x3C, 0xB7, 0x02, 0x16]) = true
      ∧ deviceKeepsContract s (.memWrite 0 0x32 [0x3C, 0xB7] false) = true)
    ∧ (let s := linked (.written statusQuery 11) [1] [.arrive (List.replicate 10 0)] []
      s.inStep ∧ respectsDuties s (.read 11) = true ∧ deviceKeepsContract s (.read 11) = true)
    ∧ (let s := linked (.received statusQuery (List.replicate 11 0)) [] [] []
      s.inStep ∧ respectsDuties s (.decode 0x47 (List.replicate 11 0)) = true)
    ∧ (let s := linked .drainDue [9] [] []
      s.inStep ∧ respectsDuties s .drain = true) := by
  refine ⟨by decide, ⟨rfl, rfl, rfl, rfl⟩, ⟨⟨rfl, rfl, rfl, rfl⟩, by decide, by decide, by decide⟩,
    ⟨⟨rfl, rfl, rfl, rfl, by decide, by decide⟩, by decide, by decide⟩, ⟨⟨rfl, rfl, rfl, fun _ => rfl⟩, by decide⟩,
    ⟨⟨rfl, rfl, rfl, trivial⟩, by decide⟩⟩

/-- One breach for each clause, and each case of a clause. -/
theorem witness_BreachLosesTheLink :
    resultOf (step (linked (.written statusQuery 11) [1] [] [.read 1])) = some (.received [1])
    ∧ resultOf (step (linked (.written ⟨0x13, 7, false⟩ 8) (List.replicate 8 0) [] [.read 7]))
      = some (.received (List.replicate 7 0))
    ∧ holds (step (linked (.written ⟨0x13, 7, false⟩ 7) (List.replicate 8 0) [] [.read 7])) (fun t => !t.quiet) = true
    ∧ resultOf (step (linked (.written statusQuery 11) [] [] [.write [0x71, 0x00, 0x13, 0x00, 0x84]])) = some .sent
    ∧ resultOf (step (linked .drainDue [9] [] [.write [0x71, 0x00, 0x13, 0x00, 0x84]])) = some .sent
    ∧ requestOnLink? Params.standard [] = none ∧ resultOf (step (ready [.write []])) = some .sent
    ∧ resultOf (step (linked .none [1] [] [.read 1])) = some (.received [1])
    ∧ resultOf (step (linked .drainDue [1] [] [.read 1])) = some (.received [1]) := by decide

theorem witness_TransportPrimitives :
    resultOf (step (linked .none [1] [.arrive [2, 3]] [.read 2])) = some (.received [1, 2])
    ∧ resultOf (step (ready [.write [5]])) = some .sent
    ∧ resultOf (step (linked .none [1] [.arrive [2]] [.drain])) = some .drained ∧ prompt [.arrive [2]] = true
    ∧ holds (step (linked .none [1] [.arrive [2]] [.receive])) (fun t => t.rx == [1, 2]) = true := by decide

theorem witness_TransportErrorLosesTheLink :
    resultOf (step (linked .none [] [.readFault 0] [.memRead 0 0x02])) = some (.error .transport)
    ∧ resultOf (step (linked .none [] [.readFault 0] [.memWrite 0 0x32 [1, 2] false])) = some (.error .transport)
    ∧ requestWritten? Params.standard (.memWrite 0 0x32 [1, 2] false) = some voltageSend
    ∧ requestWritten? Params.standard (.memRead 0 0x47) = some statusQuery
    ∧ resultOf (step (linked .none [] [.readFault 0] [.read 1])) = some (.error .transport)
    ∧ resultOf (step (linked (.written voltageSend 7) [] [.readFault 0] [.read 7])) = some (.error .transport)
    ∧ resultOf (step ((ready [.write [5]]).withSent [] [some 0])) = some (.error .transport) := by decide

theorem witness_OnlyReadsCanHang : step (ready [.memRead 0 0x02]) = .fault .readBlocked := by rfl

/-- The reply in two pieces, with an empty one and a delay between them. -/
theorem witness_MemReadExchange :
    (let s := answering [⟨[.arrive [1, 2, 3], .pause, .arrive [], .arrive [4, 5, 6, 7]], []⟩] [.memRead 0 0x13];
      s.ready ∧ s.params.admitted = true ∧ s.writeFates.all (· == none) = true
      ∧ faultFree (s.wire ++ s.nextAnswer.reply) = true
      ∧ s.nextAnswer.exact ⟨s.params.regCode.get .deviceClass, (s.params.entry .deviceClass).replyFrameSize, false⟩ = true
      ∧ s.calls = [.memRead 0 (s.params.regCode.get .deviceClass)] ∧ s.params.strictReplyChecksum = false
      ∧ 5 ≤ (s.params.entry .deviceClass).replyFrameSize
      ∧ resultOf (step s) = some (.payload [4, 5])) :=
  ⟨⟨rfl, rfl, rfl⟩, by decide⟩

/-- The acknowledgement in time, together with the end of the reply; and late. -/
theorem witness_MemWriteExchange :
    (∀ a ∈ [Answer.mk [.arrive [1, 2, 3], .arrive [4, 5, 6, 7]] [.arrive [9]],
        ⟨[.arrive (List.replicate 7 0)], [.pause, .arrive [9]]⟩],
      let s := answering [a] [.memWrite 0 0x26 [1, 2] false]
      s.ready ∧ s.params.admitted = true ∧ s.writeFates.all (· == none) = true
      ∧ faultFree (s.wire ++ s.nextAnswer.reply) = true
      ∧ s.nextAnswer.exact ⟨s.params.regCode.get .ovpThreshold, (s.params.entry .ovpThreshold).replyFrameSize, true⟩
        = true
      ∧ (s.params.entry .ovpThreshold).writable = true ∧ ([1, 2] : Bytes) ≠ []
      ∧ ([1, 2] : Bytes).length = (s.params.entry .ovpThreshold).allocatedPayloadSize
      ∧ s.calls = [.memWrite 0 (s.params.regCode.get .ovpThreshold) [1, 2] false]
      ∧ s.params.strictReplyChecksum = false ∧ 5 ≤ (s.params.entry .ovpThreshold).replyFrameSize
      ∧ ∃ p, resultOf (step s) = some (.payload p))
    ∧ prompt [.arrive [1, 2, 3], .arrive [4, 5, 6, 7], .arrive [9]] = true
    ∧ (Answer.mk [.arrive (List.replicate 7 0)] [.pause, .arrive [9]]).ack = .pause :: [.arrive [9]] := by
  refine ⟨fun a ha => ?_, rfl, rfl⟩
  simp only [List.mem_cons, List.not_mem_nil, or_false] at ha
  rcases ha with rfl | rfl <;>
    exact ⟨⟨rfl, rfl, rfl⟩, by decide, rfl, rfl, by decide, rfl, by decide, rfl, rfl, rfl, by decide, _, rfl⟩

/-- The same where DECODE fails: strict mode and a wrong checksum. -/
theorem witness_MemWriteExchange_decode_fails :
    (let s := { strict [.memWrite 0 0x26 [1, 2] false] with
        answers := [⟨[.arrive [1, 2, 3, 4, 5, 6, 7]], [.arrive [9]]⟩] };
      s.ready ∧ s.params.admitted = true ∧ s.writeFates.all (· == none) = true
      ∧ faultFree (s.wire ++ s.nextAnswer.reply) = true
      ∧ s.nextAnswer.exact ⟨s.params.regCode.get .ovpThreshold, (s.params.entry .ovpThreshold).replyFrameSize, true⟩
        = true
      ∧ resultOf (step s) = some (.error .replyChecksumMismatch)) :=
  ⟨⟨rfl, rfl, rfl⟩, by decide⟩

theorem witness_ExchangesThatWriteNothingOrAsk :
    encodeRequest Params.standard 0x05 0 none = .error .unknownRegister
    ∧ encodeRequest Params.standard 0x32 0 (some [1]) = .error .payloadLengthMismatch
    ∧ presentable Params.standard (.memWrite 0 0x32 [1] false) = true
    ∧ Params.standard.regOf? 0x13 = some .deviceClass ∧ (Params.standard.entry .deviceClass).writable = false
    ∧ presentable Params.standard (.memWrite 0 0x13 [0, 16] true) = true
    ∧ resultOf (step (answering [⟨[.arrive (List.replicate 7 0)], []⟩] [.memRead 0 0x13])) = some (.payload [0, 0])
    ∧ resultOf (step (answering [⟨[.arrive [0], .readFault 0], []⟩] [.memRead 0 0x13])) = some (.error .transport) :=
  ⟨rfl, rfl, rfl, rfl, rfl, rfl, by decide, by decide⟩

theorem witness_ResetDuringExchange : (linked (.written statusQuery 11) [] [] [.reset]).calls = [.reset]
    ∧ (linked (.written statusQuery 11) [] [] [.reset]).exchange ≠ .none ∧ (ready [.reset]).exchange = .none :=
  ⟨rfl, by decide, rfl⟩

/-- A machine whose helpers compute as the software does. -/
def inSoftware (calls : List Call) : State :=
  { ready calls with params := { Params.standard with numerics := .softwareFloat } }

theorem witness_PercentEncodeIsCeiling : step (ready [.pct16Encode (51 / 2) 42])
      = .next ((ready []).deliver (.rawValue 0x3CB7))
    ∧ (ready [.pct16Encode (51 / 2) 42]).calls = [.pct16Encode (51 / 2) 42]
    ∧ (ready [.u16Bytes 0x3CB7]).calls = [.u16Bytes 0x3CB7] := by
  refine ⟨?_, rfl, rfl⟩
  show invokePct16Encode (51 / 2) 42 (ready []) = _
  rw [invokePct16Encode, show (ready []).params.numerics = .exact from rfl, test_pct16_s2]

/-- DOC's example, the same under the software's numerics, and far from an integer. -/
theorem witness_PercentEncodeIsCeiling_software : (inSoftware []).params.numerics = .softwareFloat
    ∧ step (inSoftware [.pct16Encode (51 / 2) 42]) = .next ((inSoftware []).deliver (.rawValue 0x3CB7))
    ∧ ((15542 : Int) : Rat) + 1 / 7 < 25600 * (51 / 2) / 42 ∧ 25600 * (51 / 2) / 42 ≤ ((15542 : Int) : Rat) + 6 / 7 := by
  refine ⟨rfl, ?_, by norm_num, by norm_num⟩
  show invokePct16Encode (51 / 2) 42 (inSoftware []) = _
  rw [invokePct16Encode, show (inSoftware []).params.numerics = .softwareFloat from rfl, test_pct16_s2_in_software]

theorem witness_PercentEncodeDomain : (0 : Rat) < 32 ∧ (0 : Rat) ≤ 0 ∧ 25600 * (0 : Rat) / 32 ≤ 65534 + 6 / 7
    ∧ 25600 * (13107 / 160 : Rat) / 32 ≤ 65535 ∧ (ready []).params.numerics = .exact
    ∧ 65535 + 1 / 7 < 25600 * (84 : Rat) / 32 ∧ 65535 < 25600 * (84 : Rat) / 32 ∧ (0 : Rat) ≤ 0 ∧ (-1 : Rat) < 0
    ∧ (ready [.pct16Encode 84 32]).calls = [.pct16Encode 84 32] := by
  refine ⟨by norm_num, le_refl _, by norm_num, by norm_num, rfl, by norm_num, by norm_num, le_refl _, by norm_num, rfl⟩

theorem witness_PercentLaws : (0 : Rat) < 42 ∧ (51 / 2 : Rat) ≤ 51 / 2 ∧ pct16Encode .exact (51 / 2) 42 = some 0x3CB7
    ∧ u16Bytes 0x3CB7 = [0x3C, 0xB7] := by
  refine ⟨by norm_num, by norm_num, test_pct16_s2, by decide⟩

theorem witness_PercentDecodeFormula : (ready [.pct16Decode 0x64 0x00 42]).calls = [.pct16Decode 0x64 0x00 42]
    ∧ (ready []).params.numerics = .exact := ⟨rfl, rfl⟩

theorem witness_FloatBytesBigEndian : (ready [.float32 0x42 0x28 0 0]).calls = [.float32 0x42 0x28 0 0] := rfl

end Sys2Proof.Tests
end

section
/-! PROOFS, 30_encoding section 2: the adder that assembles byte 0 never carries, so that its sum, the OR of the four
values and the layout by fields are one byte. -/

namespace Sys2Proof.Machine

/-- Bits 7..6 of byte 0 in each mode (30_encoding R75). -/
def messageTypeBits (mode : FrameMode) : BitVec 2 :=
  match mode with
  | .write => sendType
  | .query => queryType

@[simp] theorem messageTypeBits_write : messageTypeBits .write = sendType := rfl

@[simp] theorem messageTypeBits_query : messageTypeBits .query = queryType := rfl

/-- The message type's value is its two bits at position 6 (30_encoding R75). -/
theorem messageTypeValue_eq (mode : FrameMode) : messageTypeValue mode = 0x40 * (messageTypeBits mode).toNat := by
  cases mode <;> rfl

/-- A multiple of 16 and a number below 16 share no bit: as bytes, their sum is their OR. -/
theorem ofNat_nibbles_eq_or (hi : Nat) {lo : Nat} (hlo : lo < 16) :
    BitVec.ofNat 8 (16 * hi + lo) = BitVec.ofNat 8 (16 * hi) ||| BitVec.ofNat 8 lo := by
  rw [Nat.two_pow_add_eq_or_of_lt (i := 4) hlo, BitVec.ofNat_or]

/-- Concatenation as a number: the upper field shifted past the lower one, added without a carry. -/
theorem append_toNat_eq_add {m n : Nat} (x : BitVec m) (y : BitVec n) :
    (x ++ y).toNat = x.toNat * 2 ^ n + y.toNat := by
  rw [BitVec.toNat_append, ← Nat.shiftLeft_add_eq_or_of_lt y.isLt, Nat.shiftLeft_eq]

/-- The concatenated fields as a number: each field weighs the place of its lowest bit (30_encoding R75). -/
theorem delimiterBits_toNat (mt : BitVec 2) (len : BitVec 4) :
    (delimiterBits mt len).toNat = 0x40 * mt.toNat + 0x20 + 0x10 + len.toNat := by
  simp only [delimiterBits, append_toNat_eq_add, BitVec.toNat_ofNat]
  omega

/-- The sum of the four values fits the byte (30_encoding R76). -/
theorem startDelimiter_toNat (mode : FrameMode) {size : Nat} (hsize : size ≤ 16) :
    (startDelimiter mode size).toNat = messageTypeValue mode + castBroadcast + dirOut + (size - 1) := by
  have hmt := (messageTypeBits mode).isLt
  rw [startDelimiter, BitVec.toNat_ofNat, messageTypeValue_eq, castBroadcast, dirOut]
  omega

/-- The sum of the four values is their OR (30_encoding R76). -/
theorem startDelimiter_eq_or (mode : FrameMode) {size : Nat} (hsize : size ≤ 16) :
    startDelimiter mode size = BitVec.ofNat 8 (messageTypeValue mode) ||| BitVec.ofNat 8 castBroadcast
      ||| BitVec.ofNat 8 dirOut ||| BitVec.ofNat 8 (size - 1) := by
  have hlow : size - 1 < 16 := by omega
  -- the three constants of a mode add up to 0xF0 or 0x70, which is also their OR
  cases mode with
  | write => exact ofNat_nibbles_eq_or 0xF hlow
  | query => exact ofNat_nibbles_eq_or 0x7 hlow

/-- The sum of the four values is the byte laid out by the four fields (30_encoding R75, R76). -/
theorem startDelimiter_eq_delimiterBits (mode : FrameMode) {size : Nat} (hsize : size ≤ 16) :
    startDelimiter mode size = delimiterBits (messageTypeBits mode) (BitVec.ofNat 4 (size - 1)) := by
  have hlen : (BitVec.ofNat 4 (size - 1)).toNat = size - 1 := by
    rw [BitVec.toNat_ofNat]
    omega
  apply BitVec.eq_of_toNat_eq
  rw [startDelimiter_toNat mode hsize, delimiterBits_toNat, hlen, messageTypeValue_eq, castBroadcast, dirOut]

/-- Settles O5: the sum fits the byte, and it is the OR and the concatenation of its four fields, in either mode. -/
theorem startDelimiterNeverCarries : Obligations.StartDelimiterNeverCarries := by
  unfold Obligations.StartDelimiterNeverCarries
  intro size _ hsize
  exact ⟨startDelimiter_toNat .query hsize, startDelimiter_toNat .write hsize,
    startDelimiter_eq_or .query hsize, startDelimiter_eq_or .write hsize,
    startDelimiter_eq_delimiterBits .query hsize, startDelimiter_eq_delimiterBits .write hsize⟩

end Sys2Proof.Machine
end

section
/-! PROOFS, 40_catalog_lookup section 1: LOOKUP hits exactly the codes of the sixteen registers, whichever codes an
admitted Catalog gives them, and the three projections read the entry it answers. -/

namespace Sys2Proof.Machine

/-- A code that no register has is not in the Catalog (40_catalog_lookup R100). -/
theorem lookup_unlisted {k : Params} {c : Byte} (h : ∀ r, k.regCode.get r ≠ c) :
    lookup k c = .error .unknownRegister := by
  rcases lookup_cases k c with ⟨r, -, hc, -⟩ | ⟨-, -, hl⟩
  · exact absurd hc (h r)
  · exact hl

/-- LOOKUP hits exactly the codes that registers have. -/
theorem lookup_isSome_iff (k : Params) (c : Byte) :
    (lookup k c).toOption.isSome = true ↔ ∃ r, k.regCode.get r = c := by
  rcases lookup_cases k c with ⟨r, -, hc, hl⟩ | ⟨-, hc, hl⟩
  · simpa [hl, Except.toOption] using ⟨r, hc⟩
  · simpa [hl, Except.toOption] using hc

/-- The hits among the 256 codes are the sixteen register codes, each once. -/
theorem hits_perm_codes {k : Params} (h : k.admitted = true) :
    ((List.range 256).filter fun n => (lookup k (BitVec.ofNat 8 n)).toOption.isSome).Perm
      (Reg.all.map fun r => (k.regCode.get r).toNat) := by
  have hcodes : (Reg.all.map fun r => (k.regCode.get r).toNat).Nodup :=
    List.Nodup.map (fun _ _ he => admitted_injective h (BitVec.eq_of_toNat_eq he)) (by decide)
  refine (List.perm_ext_iff_of_nodup (List.nodup_range.filter _) hcodes).mpr fun n => ?_
  simp only [List.mem_filter, List.mem_range, lookup_isSome_iff, List.mem_map, Reg.mem_all, true_and]
  constructor
  · rintro ⟨hn, r, hr⟩
    exact ⟨r, by rw [hr, BitVec.toNat_ofNat, Nat.mod_eq_of_lt hn]⟩
  · rintro ⟨r, rfl⟩
    exact ⟨(k.regCode.get r).isLt, r, by simp⟩

/-- A LOOKUP step delivers what LOOKUP answers. -/
theorem step_lookup {s : State} {c : Byte} {later : List Call} (h : s.params.admitted = true)
    (hc : s.calls = .lookup c :: later) :
    step s = .next ((s.withCalls later).deliver (lookupResult s.params c)) :=
  (step_operation hc rfl rfl).trans (if_pos h)

/-- Settles O1: a LOOKUP step delivers the answer of `lookup`, whose hits are the sixteen register codes. -/
theorem lookupAnswersEntryOrUnknown : Obligations.LookupAnswersEntryOrUnknown := by
  unfold Obligations.LookupAnswersEntryOrUnknown
  refine ⟨?listed, ?unlisted, ?hits, ?nominalVoltage⟩
  case listed =>
    rintro s _ r later h rfl hc
    rw [step_lookup h hc, lookupResult, lookup_code h r, Params.entry]
  case unlisted =>
    intro s c later h hu hc
    rw [step_lookup h hc, lookupResult, lookup_unlisted hu, State.raise]
  case hits =>
    intro k h
    rw [(hits_perm_codes h).length_eq, List.length_map]
    rfl
  case nominalVoltage => exact lookup_code standard_admitted .nominalVoltage

/-- Settles O4: each projection maps LOOKUP's answer by its field, which keeps an error. -/
theorem projectionsFollowLookup : Obligations.ProjectionsFollowLookup := by
  unfold Obligations.ProjectionsFollowLookup allocatedPayloadSize replyFrameSize writable
  refine fun k c => ⟨?entry, ?error⟩
  case entry =>
    intro e he
    rw [he]
    exact ⟨rfl, rfl, rfl⟩
  case error =>
    intro err he
    rw [he]
    exact ⟨rfl, rfl, rfl⟩

end Sys2Proof.Machine
end

section
/-! PROOFS, 41_telegram_encoder sections 2 and 3: the write-eligibility gate, the frame ENCODE gives in each mode, and
the checksum that closes every frame. -/

namespace Sys2Proof.Machine

@[simp] theorem frameMode_readOnly (present : Bool) : frameMode false present = .query := rfl

@[simp] theorem frameMode_absent (writable : Bool) : frameMode writable false = .query := by
  cases writable <;> rfl

theorem payloadPresent_some {p : Bytes} (hp : p ≠ []) : payloadPresent (some p) = true := by
  cases p with
  | nil => exact absurd rfl hp
  | cons b bs => rfl

/-- Byte 0 of a register's frame is the layout of its fields (30_encoding R75 to R77). -/
theorem startDelimiter_register {k : Params} (h : k.admitted = true) (mode : FrameMode) (r : Reg) :
    startDelimiter mode (k.entry r).allocatedPayloadSize = delimiterBits (messageTypeBits mode) (sizeField k r) :=
  startDelimiter_eq_delimiterBits mode (admitted_sizes h r).2

/-- In query mode ENCODE gives the query frame of the register, whatever the payload (41_telegram_encoder R134). -/
theorem encodeRequest_query {k : Params} (h : k.admitted = true) {r : Reg} (sel : Byte) {payload : Option Bytes}
    (hm : frameMode (k.entry r).writable (payloadPresent payload) = .query) :
    encodeRequest k (k.regCode.get r) sel payload = .ok (Claims.queryOf k r sel) := by
  simp [encodeRequest, lookup_code h r, hm, effectivePayload, sealFrame_eq_withChecksum, startDelimiter_register h,
    Claims.queryOf]

/-- In write mode ENCODE checks the payload's length and carries its bytes (41_telegram_encoder R133, R134). -/
theorem encodeRequest_write {k : Params} (h : k.admitted = true) {r : Reg} (sel : Byte) {p : Bytes}
    (hw : (k.entry r).writable = true) (hp : p ≠ []) :
    encodeRequest k (k.regCode.get r) sel (some p)
      = if p.length = (k.entry r).allocatedPayloadSize then
          .ok (withChecksum (delimiterBits sendType (sizeField k r) :: sel :: k.regCode.get r :: p),
            (k.entry r).replyFrameSize)
        else .error .payloadLengthMismatch := by
  have hm : frameMode (k.entry r).writable (payloadPresent (some p)) = .write := by
    rw [hw, payloadPresent_some hp]
    rfl
  by_cases hl : p.length = (k.entry r).allocatedPayloadSize
  · simp [encodeRequest, lookup_code h r, hm, hl, effectivePayload, sealFrame_eq_withChecksum,
      startDelimiter_register h]
  · simp [encodeRequest, lookup_code h r, hm, hl]

/-- Settles O6: a read-only register and an absent or empty payload close the gate; where it is open, the payload's
length decides. -/
theorem writeGateTruthTable : Obligations.WriteGateTruthTable := by
  unfold Obligations.WriteGateTruthTable
  intro k r sel h
  refine ⟨?readOnly, ?absent, ?empty, ?writable⟩
  case readOnly =>
    intro hro payload
    exact encodeRequest_query h sel (by rw [hro, frameMode_readOnly])
  case absent => exact encodeRequest_query h sel (frameMode_absent _)
  case empty => exact encodeRequest_query h sel (frameMode_absent _)
  case writable =>
    intro hw p hp
    rw [encodeRequest_write h sel hw hp]
    exact ⟨fun hl => if_pos hl, fun hl => if_neg hl⟩

/-- Every frame is a head of at least three bytes closed with its checksum (41_telegram_encoder R137). -/
theorem encodeRequest_ok_withChecksum {k : Params} {c sel : Byte} {payload : Option Bytes} {frame : Bytes}
    {expected : Nat} (h : encodeRequest k c sel payload = .ok (frame, expected)) :
    ∃ head, frame = withChecksum head ∧ headerLen ≤ head.length := by
  obtain ⟨r, -, -, -, rfl | ⟨p, -, -, -, -, rfl⟩⟩ := encodeRequest_ok h
  · exact ⟨_, rfl, le_rfl⟩
  · exact ⟨_, rfl, Nat.le_add_left 3 p.length⟩

theorem withChecksum_take (head : Bytes) :
    (withChecksum head).take ((withChecksum head).length - 2) = head := by
  simp [withChecksum]

theorem withChecksum_drop (head : Bytes) :
    (withChecksum head).drop ((withChecksum head).length - 2) = be16 (checksum head) := by
  simp [withChecksum]

theorem checksum_toNat (head : Bytes) : (checksum head).toNat = byteSum head % 65536 :=
  BitVec.toNat_ofNat _ _

/-- Settles O7: a frame is a head closed with its checksum, so the head is what the checksum sums. -/
theorem checksumIsSumOfEarlierBytes : Obligations.ChecksumIsSumOfEarlierBytes := by
  unfold Obligations.ChecksumIsSumOfEarlierBytes
  intro k c sel payload frame expected h
  obtain ⟨head, rfl, hlen⟩ := encodeRequest_ok_withChecksum h
  rw [withChecksum_drop, withChecksum_take]
  refine ⟨?length, ?bytes, ?number⟩
  case length =>
    rw [withChecksum_length]
    exact Nat.add_le_add_right hlen 2
  case bytes => rw [← checksum_toNat, BitVec.ofNat_toNat, BitVec.setWidth_eq]
  case number => rw [unbe16_be16, checksum_toNat]

end Sys2Proof.Machine
end

section
/-! PROOFS, 41_telegram_encoder section 4: the QUERY forms of an admitted Catalog, when one is selected, and the one
form whose code and sizes the source itself gives. -/

namespace Sys2Proof.Machine

@[simp] theorem checksum_nil : checksum [] = 0 := rfl

@[simp] theorem checksum_cons (b : Byte) (bs : Bytes) : checksum (b :: bs) = b.setWidth 16 + checksum bs := by
  apply BitVec.eq_of_toNat_eq
  simp [checksum]

/-- A query's checksum is a constant of its register plus the selector (41_telegram_encoder R140 to R155). -/
theorem checksum_query (d sel c : Byte) :
    checksum [d, sel, c] = d.setWidth 16 + c.setWidth 16 + sel.setWidth 16 := by
  simp only [checksum_cons, checksum_nil]
  ac_rfl

/-- The QUERY form of any register delivers the register's query frame and its reply length. -/
theorem exec_query {s : State} (h : s.params.admitted = true) {r : Reg} {sel : Byte} {frame : Bytes} {expected : Nat}
    (hq : Claims.queryOf s.params r sel = (frame, expected)) :
    exec (Instr.query r sel) s = .next (s.deliver (.request frame expected)) := by
  rw [exec_admitted h, form_query, formResult, encodeResult, encodeRequest_query h sel (frameMode_absent _), hq]

/-- ENCODE selects a register's QUERY form whenever the gate is closed. -/
theorem select_encode_query {k : Params} (h : k.admitted = true) {r : Reg} (sel : Byte) {payload : Option Bytes}
    (hm : frameMode (k.entry r).writable (payloadPresent payload) = .query) :
    select k (.encode (k.regCode.get r) sel payload) = some (Instr.query r sel) := by
  simp [select, selectRequest, regOf?_code h r, hm]

/-- The one register code the source gives (20_memory R46). -/
theorem admitted_code_nominalVoltage {k : Params} (h : k.admitted = true) :
    k.regCode.get .nominalVoltage = 0x02 := by
  simp only [Params.admitted, Bool.and_eq_true, beq_iff_eq] at h
  exact h.1.1.2

/-- The query frame of NominalVoltage at the size class 4 (41_telegram_encoder R142). -/
theorem queryOf_nominalVoltage {k : Params} (h : k.admitted = true) (he : k.entry .nominalVoltage = ⟨4, 9, false⟩)
    (sel : Byte) :
    Claims.queryOf k .nominalVoltage sel = ([0x73, sel, 0x02] ++ be16 (0x75 + sel.setWidth 16), 9) := by
  have hd : delimiterBits queryType (sizeField k .nominalVoltage) = 0x73 := by
    rw [sizeField, he]
    rfl
  rw [Claims.queryOf, hd, admitted_code_nominalVoltage h, he, withChecksum, checksum_query]
  rfl

/-- Settles O12: NominalVoltage is read-only, so its QUERY form is selected for every payload and delivers its query
frame. -/
theorem queryNominalVoltageCompletes : Obligations.QueryNominalVoltageCompletes := by
  unfold Obligations.QueryNominalVoltageCompletes
  intro s sel h he
  refine ⟨?completes, ?selected, ?sourceExample⟩
  case completes => exact exec_query h (queryOf_nominalVoltage h he sel)
  case selected =>
    intro payload
    have hm : frameMode (s.params.entry .nominalVoltage).writable (payloadPresent payload) = .query := by
      rw [he, frameMode_readOnly]
    have hs := select_encode_query h sel hm
    rwa [admitted_code_nominalVoltage h] at hs
  case sourceExample => rfl

end Sys2Proof.Machine
end

section
/-! PROOFS, 60_exceptions R250: an unlisted register selects no form, and both units report it before they look at
anything else. -/

namespace Sys2Proof.Machine

theorem regOf?_unlisted {k : Params} {c : Byte} (h : ∀ r, k.regCode.get r ≠ c) : k.regOf? c = none := by
  rcases lookup_cases k c with ⟨r, -, hc, -⟩ | ⟨hn, -, -⟩
  · exact absurd hc (h r)
  · exact hn

/-- ENCODE of an unlisted code (41_telegram_encoder R131). -/
theorem encodeResult_unlisted {k : Params} {c : Byte} (hc : k.regOf? c = none) (sel : Byte)
    (payload : Option Bytes) : encodeResult k c sel payload = .error .unknownRegister := by
  simp [encodeResult, encodeRequest, lookup, hc]

/-- DECODE of an unlisted code (42_telegram_decoder R181). -/
theorem decodeResult_unlisted {k : Params} {c : Byte} (hc : k.regOf? c = none) (reply : Bytes) :
    decodeResult k c reply = .error .unknownRegister := by
  rw [decodeResult, decodeReply_unlisted hc]

theorem select_encode_unlisted {k : Params} {c : Byte} (hc : k.regOf? c = none) (sel : Byte)
    (payload : Option Bytes) : select k (.encode c sel payload) = none := by
  simp [select, selectRequest, hc]

theorem select_decode_unlisted {k : Params} {c : Byte} (hc : k.regOf? c = none) (reply : Bytes) :
    select k (.decode c reply) = none := by
  simp [select, decodeReplyForm, hc]

/-- Settles O28: an invocation with an unlisted code runs as its unit's operation, which ends at LOOKUP. -/
theorem unknownRegisterComesFirst : Obligations.UnknownRegisterComesFirst := by
  unfold Obligations.UnknownRegisterComesFirst
  intro s c sel payload reply later h hu
  have hc := regOf?_unlisted hu
  refine ⟨?encode, ?decode⟩
  case encode =>
    intro hp hcalls
    calc step s
        _ = runCall (.encode c sel payload) (s.withCalls later) :=
          step_operation hcalls hp (select_encode_unlisted hc sel payload)
        _ = .next ((s.withCalls later).deliver (encodeResult s.params c sel payload)) := if_pos h
        _ = .next ((s.withCalls later).raise .unknownRegister) := by
          rw [encodeResult_unlisted hc, State.raise]
  case decode =>
    intro hp hcalls
    calc step s
        _ = runCall (.decode c reply) ((s.withCalls later).noted (.decode c reply)) :=
          step_operation hcalls hp (select_decode_unlisted hc reply)
        _ = .next (((s.withCalls later).noted (.decode c reply)).deliver (decodeResult s.params c reply)) := if_pos h
        _ = .next (((s.withCalls later).noted (.decode c reply)).raise .unknownRegister) := by
          rw [decodeResult_unlisted hc, State.raise]

end Sys2Proof.Machine
end

section
/-! PROOFS, 42_telegram_decoder sections 2 and 3: without strict mode DECODE looks at the length of a reply alone, and
returns the bytes between its header and its trailer. -/

namespace Sys2Proof.Machine

/-- A reply of any other length than the register's is refused, in either mode (42_telegram_decoder R182). -/
theorem decodeReply_of_length_ne {k : Params} {c : Byte} {r : Reg} {reply : Bytes} (hr : k.regOf? c = some r)
    (hl : reply.length ≠ (k.entry r).replyFrameSize) : decodeReply k c reply = .error .replyLengthMismatch := by
  rw [decodeReply_listed hr, if_pos (.inl hl)]

/-- A reply of the register's length, header and trailer included, gives its middle slice (42_telegram_decoder R183). -/
theorem decodeReply_of_length_eq {k : Params} {c : Byte} {r : Reg} {reply : Bytes} (hr : k.regOf? c = some r)
    (hs : k.strictReplyChecksum = false) (hl : reply.length = (k.entry r).replyFrameSize) (h5 : 5 ≤ reply.length) :
    decodeReply k c reply = .ok (slice reply 3 (reply.length - 2)) := by
  have hlen : ¬ (reply.length ≠ (k.entry r).replyFrameSize ∨ (k.entry r).replyFrameSize < overhead) :=
    not_or.mpr ⟨not_not.mpr hl, hl ▸ Nat.not_lt.mpr h5⟩
  rw [decodeReply_listed hr, if_neg hlen, if_neg (by simp [hs]), ← hl]
  rfl

/-- Given five bytes or more, DECODE succeeds exactly at the register's length. -/
theorem decodeReply_isOk_iff {k : Params} {c : Byte} {r : Reg} {reply : Bytes} (hr : k.regOf? c = some r)
    (hs : k.strictReplyChecksum = false) (h5 : 5 ≤ reply.length) :
    (∃ body, decodeReply k c reply = .ok body) ↔ reply.length = (k.entry r).replyFrameSize := by
  constructor
  · rintro ⟨body, hb⟩
    by_contra hl
    rw [decodeReply_of_length_ne hr hl] at hb
    cases hb
  · exact fun hl => ⟨_, decodeReply_of_length_eq hr hs hl h5⟩

/-- The middle slice of header, payload and trailer, bounded by their total length (00_scope R13). -/
theorem slice_framed (h0 h1 h2 k0 k1 : Byte) (payload : Bytes) :
    slice (h0 :: h1 :: h2 :: payload ++ [k0, k1]) 3 ((h0 :: h1 :: h2 :: payload ++ [k0, k1]).length - 2) = payload := by
  have hl : (h0 :: h1 :: h2 :: payload ++ [k0, k1]).length - 2 = payload.length + 3 := by simp
  rw [hl, slice_middle]

/-- The middle slice of a reply is the reply without its five framing bytes. -/
theorem slice_middle_length {reply : Bytes} (h5 : 5 ≤ reply.length) :
    (slice reply 3 (reply.length - 2)).length + 5 = reply.length := by
  rw [slice_length _ _ _ (Nat.sub_le _ _)]
  omega

/-- The REPLY form of any register delivers what DECODE answers for the register's code. -/
theorem exec_reply {s : State} (h : s.params.admitted = true) (r : Reg) (reply : Bytes) :
    exec (Instr.reply r reply) s
      = .next (s.deliver (decodeResult s.params (s.params.regCode.get r) reply)) := by
  rw [exec_admitted h, form_reply, formResult]

/-- Settles O22: the REPLY form delivers DECODE's answer, which the reply's length decides. -/
theorem replyTakenVerbatimByLength : Obligations.ReplyTakenVerbatimByLength := by
  unfold Obligations.ReplyTakenVerbatimByLength
  intro s r reply h hs
  have hr := regOf?_code h r
  refine ⟨?otherLength, ?rightLength⟩
  case otherLength =>
    intro hl
    rw [exec_reply h, decodeResult, decodeReply_of_length_ne hr hl, State.raise]
  case rightLength =>
    intro hl h5
    have hmiddle : exec (Instr.reply r reply) s = .next (s.deliver (.payload (slice reply 3 (reply.length - 2)))) := by
      rw [exec_reply h, decodeResult, decodeReply_of_length_eq hr hs hl h5]
    refine ⟨hmiddle, ?framed⟩
    case framed =>
      rintro h0 h1 h2 payload k0 k1 rfl
      rw [hmiddle, slice_framed]

/-- No frame is shorter than header and checksum together. -/
theorem encodeRequest_ok_length {k : Params} {c sel : Byte} {payload : Option Bytes} {frame : Bytes} {expected : Nat}
    (h : encodeRequest k c sel payload = .ok (frame, expected)) : 5 ≤ frame.length :=
  (checksumIsSumOfEarlierBytes k c sel payload frame expected h).1

/-- A 7-byte frame ENCODE builds from two payload bytes carries them, between three bytes and two: a query frame has
5 bytes (30_encoding R71, R72). -/
theorem encodeRequest_ok_seven {k : Params} {c sel p0 p1 : Byte} {frame : Bytes} {expected : Nat}
    (h : encodeRequest k c sel (some [p0, p1]) = .ok (frame, expected)) (h7 : frame.length = 7) :
    ∃ d k0 k1, frame = d :: sel :: c :: [p0, p1] ++ [k0, k1] := by
  obtain ⟨r, -, -, -, rfl | ⟨p, hp, -, -, -, rfl⟩⟩ := encodeRequest_ok h
  · cases h7
  · cases hp
    exact ⟨_, _, _, rfl⟩

/-- Settles O24: ENCODE's expected length is the reply size DECODE checks, so the reply's middle comes back, and a frame
fed back passes by its length alone. -/
theorem encodeThenDecodeRoundTrip : Obligations.EncodeThenDecodeRoundTrip := by
  unfold Obligations.EncodeThenDecodeRoundTrip
  refine ⟨?roundTrip, ?sizeSeven, ?sizeTwo, ?fedBack, ?sendFedBack⟩
  case roundTrip =>
    rintro k c sel frame _ hs h h5 reply rfl
    obtain ⟨r, hr, -, hl, -⟩ := encodeRequest_ok h
    exact ⟨decodeReply_of_length_eq hr hs hl h5, slice_middle_length h5⟩
  case sizeSeven =>
    intro r
    cases r <;> decide
  case sizeTwo =>
    intro r
    cases r <;> decide
  case fedBack =>
    intro k c sel payload frame expected hs h
    obtain ⟨r, hr, -, rfl, -⟩ := encodeRequest_ok h
    exact decodeReply_isOk_iff hr hs (encodeRequest_ok_length h)
  case sendFedBack =>
    intro k c sel p0 p1 frame hs h h7
    obtain ⟨r, hr, -, hl, -⟩ := encodeRequest_ok h
    rw [decodeReply_of_length_eq hr hs (h7.trans hl) (encodeRequest_ok_length h)]
    obtain ⟨d, k0, k1, rfl⟩ := encodeRequest_ok_seven h h7
    rw [slice_framed]

end Sys2Proof.Machine
end

section
/-! PROOFS, 30_encoding sections 4 to 6: what the decoder of requests accepts, and that it and the encoder are inverse
to each other. -/

namespace Sys2Proof

open Machine Claims

/-- A form's constructor is the only instruction of that shape. -/
theorem query_of_form {i : Instr} {r : Reg} {sel : Byte} (h : i.form = .query r sel) : i = Instr.query r sel :=
  form_inj (h.trans (form_query r sel).symm)

theorem reply_of_form {i : Instr} {r : Reg} {reply : Bytes} (h : i.form = .reply r reply) : i = Instr.reply r reply :=
  form_inj (h.trans (form_reply r reply).symm)

/-- An instruction of the Send shape is the SEND row of its register. -/
theorem send?_of_form {i : Instr} {r : Reg} {sel p0 p1 : Byte} (h : i.form = .send r sel p0 p1) :
    Instr.send? r sel p0 p1 = some i := by
  have hs : (Instr.send? r sel p0 p1).isSome = true := by
    rw [send?_isSome]
    cases i <;> cases h <;> rfl
  obtain ⟨j, hj⟩ := Option.isSome_iff_exists.mp hs
  rw [hj, form_inj ((form_send hj).trans h.symm)]

/-- What stands behind the three header bytes of a request of register `r`: the rest of a QUERY form, or of a SEND form
that the Catalog has (30_encoding R71, R72). -/
inductive RequestTail (k : Params) (r : Reg) (sel : Byte) : BitVec 2 → Bytes → Instr → Bytes → Prop where
  | query (x y : Byte) (rest : Bytes) : RequestTail k r sel queryType (x :: y :: rest) (Instr.query r sel) rest
  | send {i : Instr} (p0 p1 x y : Byte) (rest : Bytes) (hw : (k.entry r).writable = true)
      (hsize : (k.entry r).allocatedPayloadSize = 2) (hi : Instr.send? r sel p0 p1 = some i) :
      RequestTail k r sel sendType (p0 :: p1 :: x :: y :: rest) i rest

theorem decodeQuery_ok_iff {k : Params} {r : Reg} {sel : Byte} {tail rest : Bytes} {i : Instr} :
    decodeQuery r sel tail = .ok (i, rest) ↔ RequestTail k r sel queryType tail i rest := by
  constructor
  · intro h
    unfold decodeQuery at h
    split at h
    · cases h
      exact .query _ _ _
    · cases h
  · rintro ⟨⟩
    rfl

theorem decodeSend_ok_iff {k : Params} {r : Reg} {sel : Byte} {tail rest : Bytes} {i : Instr} :
    decodeSend k r sel tail = .ok (i, rest) ↔ RequestTail k r sel sendType tail i rest := by
  constructor
  · intro h
    unfold decodeSend at h
    split at h
    · cases h
    · rename_i hfits
      rw [not_or, Bool.not_eq_false, not_not] at hfits
      split at h
      · split at h
        · cases h
          exact .send _ _ _ _ _ hfits.1 hfits.2 ‹_›
        · cases h
      · cases h
  · intro h
    cases h with
    | send p0 p1 x y rest hw hsize hi => simp [decodeSend, hw, hsize, hi]

/-- Everything the decoder of requests accepts (30_encoding R91). -/
theorem decode_ok_iff {k : Params} {bs rest : Bytes} {i : Instr} :
    decode k bs = .ok (i, rest) ↔
      ∃ d sel c tail r, bs = d :: sel :: c :: tail ∧ castType d = 1 ∧ direction d = 1 ∧ k.regOf? c = some r
        ∧ lengthField d = sizeField k r ∧ RequestTail k r sel (messageType d) tail i rest := by
  constructor
  · intro h
    unfold decode at h
    split at h
    · rename_i d sel c tail
      split at h
      · cases h
      split at h
      · cases h
      split at h
      · cases h
      rename_i hcast hdir htype
      split at h
      · cases h
      rename_i r hr
      split at h
      · cases h
      rename_i hlen
      refine ⟨d, sel, c, tail, r, rfl, not_not.mp hcast, not_not.mp hdir, hr, not_not.mp hlen, ?_⟩
      split at h
      · rename_i hsend
        rw [hsend]
        exact decodeSend_ok_iff.mp h
      · rename_i hsend
        have hquery : messageType d = queryType := not_not.mp fun hq => htype ⟨hq, hsend⟩
        rw [hquery]
        exact decodeQuery_ok_iff.mp h
    · cases h
  · rintro ⟨d, sel, c, tail, r, rfl, hcast, hdir, hr, hlen, htail⟩
    have htype : (messageType d = queryType ∧ decodeQuery r sel tail = .ok (i, rest))
        ∨ (messageType d = sendType ∧ decodeSend k r sel tail = .ok (i, rest)) := by
      generalize messageType d = mt at htail
      cases htail with
      | query => exact .inl ⟨rfl, rfl⟩
      | send p0 p1 x y rest hw hsize hi => exact .inr ⟨rfl, decodeSend_ok_iff.mpr (.send _ _ _ _ _ hw hsize hi)⟩
    rcases htype with ⟨hm, hq⟩ | ⟨hm, hs⟩
    · have hne : queryType ≠ sendType := by decide
      simp [decode, hcast, hdir, hm, hr, hlen, hne, hq]
    · simp [decode, hcast, hdir, hm, hr, hlen, hs]

/-- A frame of the register's own delimiter and code is decoded by what stands behind its header. -/
theorem decode_delimiter {k : Params} (h : k.admitted = true) {r : Reg} {sel : Byte} {mt : BitVec 2} {tail rest : Bytes}
    {i : Instr} (ht : RequestTail k r sel mt tail i rest) :
    decode k (delimiterBits mt (sizeField k r) :: sel :: k.regCode.get r :: tail) = .ok (i, rest) :=
  decode_ok_iff.mpr ⟨_, _, _, _, r, rfl, castType_delimiterBits _ _, direction_delimiterBits _ _, regOf?_code h r,
    lengthField_delimiterBits _ _, by rwa [messageType_delimiterBits]⟩

/-- Settles O34: the wire form has the delimiter and the code of its register, and behind them the operands in the
places the decoder reads. -/
theorem decodeInvertsEncode : Obligations.DecodeInvertsEncode := by
  unfold Obligations.DecodeInvertsEncode
  intro k i rest h hfits
  cases hf : i.form with
  | query r sel =>
    rw [encode, hf, query_of_form hf]
    exact decode_delimiter h (.query _ _ rest)
  | send r sel p0 p1 =>
    rw [RequestFits, hf] at hfits
    rw [encode, hf]
    exact decode_delimiter h (.send p0 p1 _ _ rest hfits.1 hfits.2 (send?_of_form hf))
  | reply r reply =>
    rw [RequestFits, hf] at hfits
    exact hfits.elim

/-- Bytes that end in the checksum of the others are those others, closed with their checksum. -/
theorem eq_withChecksum {bytes : Bytes}
    (h : bytes.drop (bytes.length - 2) = be16 (checksum (bytes.take (bytes.length - 2)))) :
    bytes = withChecksum (bytes.take (bytes.length - 2)) := by
  rw [withChecksum, ← h, List.take_append_drop]

/-- Settles O36: the four fields of byte 0, the code and the operands are all that decode reads, and the encoder puts
each back in its place; the checksum is the one left to the premise. -/
theorem encodeInvertsDecode : Obligations.EncodeInvertsDecode := by
  unfold Obligations.EncodeInvertsDecode
  intro k bytes rest i h hd hsum
  obtain ⟨d, sel, c, tail, r, hbytes, hcast, hdir, hr, hlen, htail⟩ := decode_ok_iff.mp hd
  have hdelim : delimiterBits (messageType d) (sizeField k r) = d := delimiter_of_fields hcast hdir rfl hlen
  have hcode := regOf?_some hr
  generalize messageType d = mt at htail hdelim
  rw [eq_withChecksum hsum]
  cases htail with
  | query x y rest =>
    have : bytes = [d, sel, c, x, y] := List.append_cancel_right hbytes
    subst this
    simp [encode, encodeForm, hdelim, hcode]
  | send p0 p1 x y rest hw hsize hi =>
    have : bytes = [d, sel, c, p0, p1, x, y] := List.append_cancel_right hbytes
    subst this
    simp [encode, form_send hi, encodeForm, hdelim, hcode]

/-- At the standard table every SEND row is of a writable register of size class 2 (40_catalog_lookup R103). -/
theorem standard_send_fits {i : Instr} {r : Reg} {sel p0 p1 : Byte} (h : i.form = .send r sel p0 p1) :
    (Params.standard.entry r).writable = true ∧ (Params.standard.entry r).allocatedPayloadSize = 2 := by
  have hs : r.hasSend = true := by
    rw [← send?_isSome r sel p0 p1, send?_of_form h]
    rfl
  revert hs
  cases r <;> decide

/-- Settles O35: the standard table is admitted and has every request form, so DecodeInvertsEncode applies; a reply is
found by its register's code. -/
theorem everyFormReadBack : Obligations.EveryFormReadBack := by
  unfold Obligations.EveryFormReadBack
  intro i _
  have hread (hfits : RequestFits Params.standard i) :
      decode Params.standard (encode Params.standard i) = .ok (i, []) := by
    simpa using decodeInvertsEncode Params.standard i [] standard_admitted hfits
  cases hf : i.form with
  | query r sel => exact hread (by rw [RequestFits, hf]; trivial)
  | send r sel p0 p1 => exact hread (by rw [RequestFits, hf]; exact standard_send_fits hf)
  | reply r reply =>
    show decodeReplyForm _ _ (encodeForm _ i.form) = some i
    rw [hf, reply_of_form hf, decodeReplyForm, regOf?_code standard_admitted]
    rfl

/-- Settles O38: each word is decoded, or refused, byte by byte. -/
theorem tableWordsDecode : Obligations.TableWordsDecode := by
  unfold Obligations.TableWordsDecode
  exact ⟨rfl, rfl, rfl, rfl, rfl, rfl, rfl, rfl⟩

end Sys2Proof

namespace Sys2Proof.Machine

/-- Wire bytes that decode to no form refuse the step (log entry 8). -/
theorem step_wireForm_refused {s : State} {bytes : Bytes} {later : List Call} (hc : s.calls = .wireForm bytes :: later)
    (h : ∀ i rest, decode s.params bytes ≠ .ok (i, rest)) : ∃ why, step s = .refused (.illegalTelegram why) := by
  cases hd : decode s.params bytes with
  | ok p => exact absurd hd (h p.1 p.2)
  | error why =>
    refine ⟨why, (step_operation hc rfl (by simp [select, hd])).trans ?_⟩
    show runCall (.wireForm bytes) (s.withCalls later) = _
    simp [runCall, hd]

/-- Settles O37: of what the decoder requires of the header, each of the four cases denies one. -/
theorem reservedTelegramsRefused : Obligations.ReservedTelegramsRefused := by
  unfold Obligations.ReservedTelegramsRefused
  intro s d sel c rest later hcalls hbad
  refine step_wireForm_refused hcalls fun i rest' hd => ?_
  obtain ⟨d', sel', c', tail, r, hbytes, hcast, hdir, hr, -, htail⟩ := decode_ok_iff.mp hd
  cases hbytes
  have htype : messageType d = queryType ∨ messageType d = sendType := by
    generalize messageType d = mt at htail
    cases htail with
    | query => exact .inl rfl
    | send => exact .inr rfl
  rcases hbad with hm | hc | hd | hu
  · revert hm htype
    generalize messageType d = mt
    revert mt
    decide
  · rw [hc] at hcast
    exact absurd hcast (by decide)
  · rw [hd] at hdir
    exact absurd hdir (by decide)
  · exact hu r (regOf?_some hr)

/-- In write mode a payload of the allocated size gives the Send frame that carries it (41_telegram_encoder R134). -/
theorem encodeRequest_send {k : Params} (h : k.admitted = true) {r : Reg} (sel : Byte) {p : Bytes}
    (hw : (k.entry r).writable = true) (hp : p ≠ []) (hl : p.length = (k.entry r).allocatedPayloadSize) :
    encodeRequest k (k.regCode.get r) sel (some p)
      = .ok (withChecksum (delimiterBits sendType (sizeField k r) :: sel :: k.regCode.get r :: p),
          (k.entry r).replyFrameSize) := by
  rw [encodeRequest_write h sel hw hp, if_pos hl]

/-- Settles O33: ENC's adder gives the byte laid out by fields, and its byte sum the checksum field. -/
theorem encoderEmitsTheWireForm : Obligations.EncoderEmitsTheWireForm := by
  unfold Obligations.EncoderEmitsTheWireForm
  intro i s h hfits
  rw [exec_admitted h, encode, Claims.formReplySize]
  rw [Claims.RequestFits] at hfits
  cases hf : i.form with
  | query r sel => rw [formResult, encodeResult, encodeRequest_query h sel (frameMode_absent _)]; rfl
  | send r sel p0 p1 =>
    rw [hf] at hfits
    obtain ⟨hw, hsize⟩ := hfits
    rw [formResult, encodeResult, encodeRequest_send h (p := [p0, p1]) sel hw (List.cons_ne_nil _ _) hsize.symm]
    rfl
  | reply r reply =>
    rw [hf] at hfits
    exact hfits.elim

end Sys2Proof.Machine
end

section
/-! PROOFS, 41_telegram_encoder section 3 and 30_encoding sections 2, 3: the shape of every frame of an admitted
Catalog, what a frame determines, and how large its byte sum can be. -/

namespace Sys2Proof.Machine

/-- The two frames ENCODE can give for a register: its query, or a Send that carries the payload. -/
inductive FrameOf (k : Params) (r : Reg) (sel : Byte) (payload : Option Bytes) : Bytes → Prop where
  | query : FrameOf k r sel payload
      (withChecksum [delimiterBits queryType (sizeField k r), sel, k.regCode.get r])
  | send (p : Bytes) (hp : payload = some p) (hne : p ≠ []) (hw : (k.entry r).writable = true)
      (hl : p.length = (k.entry r).allocatedPayloadSize) : FrameOf k r sel payload
      (withChecksum (delimiterBits sendType (sizeField k r) :: sel :: k.regCode.get r :: p))

/-- Every success of ENCODE on an admitted Catalog (41_telegram_encoder R134 to R138). -/
theorem encodeRequest_frame {k : Params} (h : k.admitted = true) {c sel : Byte} {payload : Option Bytes} {frame : Bytes}
    {expected : Nat} (he : encodeRequest k c sel payload = .ok (frame, expected)) :
    ∃ r, k.regCode.get r = c ∧ expected = (k.entry r).replyFrameSize ∧ FrameOf k r sel payload frame := by
  obtain ⟨r, -, rfl, rfl, rfl | ⟨p, hp, hne, hw, hl, rfl⟩⟩ := encodeRequest_ok he
  · exact ⟨r, rfl, rfl, by rw [startDelimiter_register h]; exact .query⟩
  · exact ⟨r, rfl, rfl, by rw [startDelimiter_register h]; exact .send p hp hne hw hl⟩

@[simp] theorem requestLength?_query (len : BitVec 4) : requestLength? (delimiterBits queryType len) = some 5 := by
  have hne : queryType ≠ sendType := by decide
  simp [requestLength?, hne]

@[simp] theorem requestLength?_send (len : BitVec 4) :
    requestLength? (delimiterBits sendType len) = some (5 + len.toNat + 1) := by
  simp [requestLength?]

/-- Byte 0 of a Send gives five bytes more than the size class (30_encoding R74). -/
theorem requestLength?_sizeField {k : Params} (h : k.admitted = true) (r : Reg) :
    requestLength? (delimiterBits sendType (sizeField k r)) = some ((k.entry r).allocatedPayloadSize + 5) := by
  have := (admitted_sizes h r).1
  rw [requestLength?_send, sizeField_toNat h]
  congr 1
  omega

/-- Settles O8: both frames of a register have the shape, with the empty body or the payload. -/
theorem frameShape : Obligations.FrameShape := by
  unfold Obligations.FrameShape
  intro k c sel payload frame expected h he
  obtain ⟨r, rfl, rfl, hframe⟩ := encodeRequest_frame h he
  have hlookup := lookup_code h r
  cases hframe with
  | query =>
    refine ⟨_, [], _, rfl, castType_delimiterBits _ _, direction_delimiterBits _ _, requestLength?_query _, ?_, ?_⟩
    · simp [replyFrameSize, hlookup, Except.map]
    · exact .inl ⟨messageType_delimiterBits _ _, rfl, rfl⟩
  | send p hp hne hw hl =>
    refine ⟨_, p, _, rfl, castType_delimiterBits _ _, direction_delimiterBits _ _, ?_, ?_, ?_⟩
    · simp [requestLength?_sizeField h, hl]
    · simp [replyFrameSize, hlookup, Except.map]
    · refine .inr ⟨messageType_delimiterBits _ _, hne, hp, ?_, ?_⟩
      · simp [writable, hlookup, Except.map, hw]
      · simp [allocatedPayloadSize, hlookup, Except.map, hl]

/-- Settles O9: the code and the selector stand in the header, the reply length is the code's, and what a Send carries
stands between the header and the last two bytes. -/
theorem frameDeterminesInputs : Obligations.FrameDeterminesInputs := by
  unfold Obligations.FrameDeterminesInputs
  intro k c c' sel sel' p p' frame n n' h he he'
  obtain ⟨d, body, sum, hf, -, -, -, hn, hbody⟩ := frameShape k c sel p frame n h he
  obtain ⟨d', body', sum', hf', -, -, -, hn', hbody'⟩ := frameShape k c' sel' p' frame n' h he'
  have hsame : d :: sel :: c :: body = d' :: sel' :: c' :: body' :=
    (List.append_inj' (hf.symm.trans hf') rfl).1
  obtain ⟨rfl, rfl, rfl, rfl⟩ : d = d' ∧ sel = sel' ∧ c = c' ∧ body = body' := by simpa using hsame
  refine ⟨rfl, rfl, Except.ok.inj (hn.symm.trans hn'), fun hsend => ?_⟩
  have hd : messageType d ≠ queryType := by
    rw [hf] at hsend
    rw [show messageType d = sendType from hsend]
    decide
  rcases hbody with ⟨hq, -⟩ | ⟨-, -, hp, -⟩
  · exact absurd hq hd
  rcases hbody' with ⟨hq, -⟩ | ⟨-, -, hp', -⟩
  · exact absurd hq hd
  rw [hp, hp']

section
variable {k : Params} (hk : k.hasStandardTable)
include hk

/-- The entries, codes and length fields of the standard table, whatever the other parameters are. -/
theorem standard_entry (r : Reg) : k.entry r = (catalogWith 7).get r := by
  rw [Params.entry, hk.2.1]

theorem standard_code (r : Reg) : k.regCode.get r = defaultRegCode.get r := by
  rw [hk.1]

theorem standard_sizeField (r : Reg) : sizeField k r = sizeField Params.standard r := by
  rw [sizeField, standard_entry hk]
  rfl

/-- The query delimiters of the standard table (30_encoding R78). -/
theorem standard_query_delimiter (r : Reg) :
    delimiterBits queryType (sizeField k r) ∈ [(0x7F : Byte), 0x73, 0x71, 0x7A] := by
  rw [standard_sizeField hk]
  cases r <;> decide

/-- The Send delimiter of the standard table, its size class and its codes (30_encoding R78, R86). -/
theorem standard_send_delimiter {r : Reg} (hw : (k.entry r).writable = true) :
    delimiterBits sendType (sizeField k r) = 0xF1 ∧ (k.entry r).allocatedPayloadSize = 2
      ∧ k.regCode.get r ∈ [(0x26 : Byte), 0x27, 0x32, 0x33, 0x36] := by
  rw [standard_entry hk] at hw
  rw [standard_sizeField hk, standard_entry hk, standard_code hk]
  revert hw
  cases r <;> decide

end

/-- Settles O10: a query starts with its register's query delimiter, a Send with 0xF1. -/
theorem onlyFiveStartDelimiters : Obligations.OnlyFiveStartDelimiters := by
  unfold Obligations.OnlyFiveStartDelimiters
  intro k c sel payload frame expected hk he
  obtain ⟨r, rfl, -, hframe⟩ := encodeRequest_frame hk.2.2 he
  cases hframe with
  | query =>
    show delimiterBits queryType (sizeField k r) ∈ _ ∧ (delimiterBits queryType (sizeField k r) = 0xF1 → _)
      ∧ (delimiterBits queryType (sizeField k r) ≠ 0xF1 → _) ∧ (delimiterBits queryType (sizeField k r) = 0xF1 → _)
    have hd := standard_query_delimiter hk r
    have hne : delimiterBits queryType (sizeField k r) ≠ 0xF1 := fun heq => absurd (heq ▸ hd) (by decide)
    exact ⟨List.mem_append_left [0xF1] hd, fun heq => absurd heq hne, fun _ => rfl, fun heq => absurd heq hne⟩
  | send p hp hne hw hl =>
    obtain ⟨hd, hsize, hcode⟩ := standard_send_delimiter hk hw
    rw [hd]
    exact ⟨by simp [withChecksum], fun _ => hcode, fun hother => absurd rfl hother,
      fun _ => by rw [withChecksum_length]; simp [hl, hsize]⟩

/-- Settles O11: at most 19 bytes of at most 255 each; at the standard table a query sums three bytes, and a Send five
of which the first is 0xF1. -/
theorem checksumNeverWraps : Obligations.ChecksumNeverWraps := by
  unfold Obligations.ChecksumNeverWraps
  intro k c sel payload frame expected h he
  obtain ⟨r, rfl, -, hframe⟩ := encodeRequest_frame h he
  cases hframe with
  | query =>
    rw [withChecksum_take]
    have hsum := byteSum_le [delimiterBits queryType (sizeField k r), sel, k.regCode.get r]
    simp only [List.length_cons, List.length_nil] at hsum
    exact ⟨by simp, by omega, fun _ => by omega⟩
  | send p hp hne hw hl =>
    rw [withChecksum_take]
    have hsize := (admitted_sizes h r).2
    have hrest := byteSum_le (sel :: k.regCode.get r :: p)
    have hfirst := (delimiterBits sendType (sizeField k r)).isLt
    rw [byteSum_cons]
    simp only [List.length_cons] at hrest
    refine ⟨by simp only [withChecksum_length, List.length_cons]; omega, by omega, fun hk => ?_⟩
    obtain ⟨hd, h2, -⟩ := standard_send_delimiter hk hw
    have hd' : (delimiterBits sendType (sizeField k r)).toNat = 0xF1 := by rw [hd]; rfl
    omega

end Sys2Proof.Machine
end

section
/-! PROOFS, 41_telegram_encoder sections 4 and 5: the QUERY and SEND forms at the standard table, each family from one
lemma over its registers; and an ENCODE frame as a request on the link. -/

namespace Sys2Proof.Machine

open Claims

/-- The QUERY form of a register at the standard table: delimiter, code, checksum base and reply length are the
register's. -/
theorem queryRuns (r : Reg) :
    QueryRuns (Instr.query r) (delimiterBits queryType (sizeField Params.standard r)) (defaultRegCode.get r)
      ((delimiterBits queryType (sizeField Params.standard r)).setWidth 16 + (defaultRegCode.get r).setWidth 16)
      ((catalogWith 7).get r).replyFrameSize := by
  intro s sel hk
  refine exec_query hk.2.2 ?_
  rw [queryOf, standard_sizeField hk, standard_code hk, standard_entry hk, withChecksum, checksum_query]

/-- A read-only register's QUERY form is selected for every payload. -/
theorem selectedAlways {r : Reg} (hr : ((catalogWith 7).get r).writable = false) :
    SelectedAlways (Instr.query r) (defaultRegCode.get r) := by
  intro k sel payload hk
  rw [← standard_code hk]
  exact select_encode_query hk.2.2 sel (by rw [standard_entry hk, hr, frameMode_readOnly])

/-- Every register's QUERY form is selected without a payload. -/
theorem selectedWithoutPayload (r : Reg) : SelectedWithoutPayload (Instr.query r) (defaultRegCode.get r) := by
  intro k sel hk
  rw [← standard_code hk]
  exact ⟨select_encode_query hk.2.2 sel (frameMode_absent _), select_encode_query hk.2.2 sel (frameMode_absent _)⟩

/-- Settles O13: the five strings are read-only registers of size class 16. -/
theorem queryStringFormsComplete : Obligations.QueryStringFormsComplete := by
  unfold Obligations.QueryStringFormsComplete
  exact ⟨queryRuns .deviceType, selectedAlways (r := .deviceType) rfl,
    queryRuns .serialNumber, selectedAlways (r := .serialNumber) rfl,
    queryRuns .articleNumber, selectedAlways (r := .articleNumber) rfl,
    queryRuns .manufacturer, selectedAlways (r := .manufacturer) rfl,
    queryRuns .softwareVersion, selectedAlways (r := .softwareVersion) rfl⟩

/-- Settles O14: the three ratings are read-only registers of size class 4. -/
theorem queryRatingFormsComplete : Obligations.QueryRatingFormsComplete := by
  unfold Obligations.QueryRatingFormsComplete
  exact ⟨queryRuns .nominalVoltage, selectedAlways (r := .nominalVoltage) rfl,
    queryRuns .nominalCurrent, selectedAlways (r := .nominalCurrent) rfl,
    queryRuns .nominalPower, selectedAlways (r := .nominalPower) rfl⟩

/-- Settles O15: of the six scalars DeviceClass alone is read-only. -/
theorem queryScalarFormsComplete : Obligations.QueryScalarFormsComplete := by
  unfold Obligations.QueryScalarFormsComplete
  exact ⟨queryRuns .deviceClass, selectedAlways (r := .deviceClass) rfl,
    queryRuns .ovpThreshold, selectedWithoutPayload .ovpThreshold,
    queryRuns .ocpThreshold, selectedWithoutPayload .ocpThreshold,
    queryRuns .setValueVoltage, selectedWithoutPayload .setValueVoltage,
    queryRuns .setValueCurrent, selectedWithoutPayload .setValueCurrent,
    queryRuns .powerSupplyControl, selectedWithoutPayload .powerSupplyControl⟩

/-- Settles O16: the two status registers are read-only, of size class 11. -/
theorem queryStatusFormsComplete : Obligations.QueryStatusFormsComplete := by
  unfold Obligations.QueryStatusFormsComplete
  exact ⟨queryRuns .statusActualValues, selectedAlways (r := .statusActualValues) rfl,
    queryRuns .statusSetValues, selectedAlways (r := .statusSetValues) rfl⟩

/-- What makes bytes a request on the link, and which (30_encoding R74 to R86). -/
theorem requestOnLink?_eq_some_iff {k : Params} {bytes : Bytes} {req : Request} :
    requestOnLink? k bytes = some req ↔
      ∃ d sel c tail r, bytes = d :: sel :: c :: tail ∧ k.regOf? c = some r
        ∧ (requestLength? d = some bytes.length ∧ castType d = 1 ∧ direction d = 1 ∧ lengthField d = sizeField k r
          ∧ (messageType d = sendType → (k.entry r).writable = true)
          ∧ withChecksum (bytes.take (bytes.length - checksumLen)) = bytes)
        ∧ req = ⟨c, (k.entry r).replyFrameSize, messageType d == sendType⟩ := by
  constructor
  · intro h
    unfold requestOnLink? at h
    split at h
    · split at h
      · cases h
      split at h
      · exact ⟨_, _, _, _, _, rfl, ‹_›, ‹_›, (Option.some.inj h).symm⟩
      · cases h
    · cases h
  · rintro ⟨d, sel, c, tail, r, rfl, hr, hfits, rfl⟩
    simp only [requestOnLink?, hr]
    exact if_pos hfits

/-- A sealed frame with a register's delimiter and code is a request on the link that expects the register's reply. -/
theorem requestOnLink?_sealed {k : Params} (h : k.admitted = true) {r : Reg} {sel : Byte} {p : Bytes} {mt : BitVec 2}
    (hlen : requestLength? (delimiterBits mt (sizeField k r)) = some (p.length + 5))
    (hw : mt = sendType → (k.entry r).writable = true) :
    requestOnLink? k (withChecksum (delimiterBits mt (sizeField k r) :: sel :: k.regCode.get r :: p))
      = some ⟨k.regCode.get r, (k.entry r).replyFrameSize, mt == sendType⟩ :=
  requestOnLink?_eq_some_iff.mpr ⟨_, _, _, _, r, rfl, regOf?_code h r,
    ⟨by simp [hlen], castType_delimiterBits _ _, direction_delimiterBits _ _, lengthField_delimiterBits _ _,
      by rwa [messageType_delimiterBits], congrArg withChecksum (withChecksum_take _)⟩,
    by rw [messageType_delimiterBits]⟩

/-- A query frame of the Catalog as a request on the link. -/
theorem requestOnLink?_query {k : Params} (h : k.admitted = true) (r : Reg) (sel : Byte) :
    requestOnLink? k (withChecksum [delimiterBits queryType (sizeField k r), sel, k.regCode.get r])
      = some ⟨k.regCode.get r, (k.entry r).replyFrameSize, false⟩ :=
  requestOnLink?_sealed h (p := []) (requestLength?_query _) fun hq => absurd hq (by decide)

/-- A Send frame of the Catalog as a request on the link. -/
theorem requestOnLink?_send {k : Params} (h : k.admitted = true) {r : Reg} (sel : Byte) {p : Bytes}
    (hw : (k.entry r).writable = true) (hl : p.length = (k.entry r).allocatedPayloadSize) :
    requestOnLink? k (withChecksum (delimiterBits sendType (sizeField k r) :: sel :: k.regCode.get r :: p))
      = some ⟨k.regCode.get r, (k.entry r).replyFrameSize, true⟩ :=
  requestOnLink?_sealed h (by rw [requestLength?_sizeField h, hl]) fun _ => hw

/-- What ENCODE builds is a request on the link with the reply length that ENCODE gives (41_telegram_encoder R138). -/
theorem requestOnLink?_encoded {k : Params} (h : k.admitted = true) {c sel : Byte} {payload : Option Bytes}
    {frame : Bytes} {expected : Nat} (he : encodeRequest k c sel payload = .ok (frame, expected)) :
    ∃ isSend, requestOnLink? k frame = some ⟨c, expected, isSend⟩ := by
  obtain ⟨r, rfl, rfl, hframe⟩ := encodeRequest_frame h he
  cases hframe with
  | query => exact ⟨false, requestOnLink?_query h r sel⟩
  | send p hp hne hw hl => exact ⟨true, requestOnLink?_send h sel hw hl⟩

/-- A Send's checksum is a constant of its register plus its operands (41_telegram_encoder R156 to R160). -/
theorem checksum_send (d sel c p0 p1 : Byte) :
    checksum [d, sel, c, p0, p1]
      = d.setWidth 16 + c.setWidth 16 + sel.setWidth 16 + p0.setWidth 16 + p1.setWidth 16 := by
  simp only [checksum_cons, checksum_nil]
  ac_rfl

/-- An ENCODE step whose inputs end in an error raises it. -/
theorem step_encode_error {s : State} {c sel : Byte} {payload : Option Bytes} {later : List Call} {e : CoreError}
    (h : s.params.admitted = true) (hc : s.calls = .encode c sel payload :: later)
    (hp : presentable s.params (.encode c sel payload) = true) (hn : select s.params (.encode c sel payload) = none)
    (he : encodeRequest s.params c sel payload = .error e) : step s = .next ((s.withCalls later).raise e) := by
  rw [step_operation hc hp hn]
  show withCatalog (s.withCalls later) (.next ((s.withCalls later).deliver (encodeResult s.params c sel payload))) = _
  rw [withCatalog, if_pos (show (s.withCalls later).params.admitted = true from h), encodeResult, he, State.raise]

/-- In write mode ENCODE selects the SEND row, for two payload bytes only (41_telegram_encoder R156 to R160). -/
theorem select_encode_send {k : Params} (h : k.admitted = true) {r : Reg} (hw : (k.entry r).writable = true)
    (sel p0 p1 : Byte) :
    select k (.encode (k.regCode.get r) sel (some [p0, p1])) = Instr.send? r sel p0 p1 := by
  simp [select, selectRequest, regOf?_code h r, hw, frameMode, payloadPresent]

theorem select_encode_otherLength {k : Params} (h : k.admitted = true) {r : Reg} (hw : (k.entry r).writable = true)
    (sel : Byte) {p : Bytes} (hne : p ≠ []) (hl : p.length ≠ 2) :
    select k (.encode (k.regCode.get r) sel (some p)) = none := by
  match p with
  | [] => exact absurd rfl hne
  | [_] => simp [select, selectRequest, regOf?_code h r, hw, frameMode, payloadPresent]
  | [_, _] => exact absurd rfl hl
  | _ :: _ :: _ :: _ => simp [select, selectRequest, regOf?_code h r, hw, frameMode, payloadPresent]

section
variable {k : Params} (hk : k.hasStandardTable) {r : Reg} (hr : ((catalogWith 7).get r).writable = true)
include hk hr

theorem standard_writable : (k.entry r).writable = true := by
  rw [standard_entry hk, hr]

/-- The wire form of a SEND row at the standard table. -/
theorem standard_encode_send {i : Instr} {sel p0 p1 : Byte} (hi : Instr.send? r sel p0 p1 = some i) :
    encode k i = withChecksum [0xF1, sel, defaultRegCode.get r, p0, p1] := by
  rw [encode, form_send hi, encodeForm, (standard_send_delimiter hk (standard_writable hk hr)).1, standard_code hk]

/-- The five writable registers have the reply size 7 (log entry 2). -/
theorem standard_send_replySize : (k.entry r).replyFrameSize = 7 := by
  rw [standard_entry hk]
  revert hr
  cases r <;> decide

/-- The wire form of a SEND row as a request on the link. -/
theorem standard_send_request {i : Instr} {sel p0 p1 : Byte} (hi : Instr.send? r sel p0 p1 = some i) :
    requestOnLink? k (encode k i) = some ⟨defaultRegCode.get r, 7, true⟩ := by
  have hw := standard_writable hk hr
  obtain ⟨-, hsize, -⟩ := standard_send_delimiter hk hw
  rw [encode, form_send hi, ← standard_code hk, ← standard_send_replySize hk hr]
  exact requestOnLink?_send hk.2.2 sel (p := [p0, p1]) hw hsize.symm

end

/-- The SEND form of a writable register at the standard table: frame, selection, other lengths, and the drain due. -/
theorem sendRuns {r : Reg} {form : Byte → Byte → Byte → Instr}
    (hform : ∀ sel p0 p1, Instr.send? r sel p0 p1 = some (form sel p0 p1))
    (hr : ((catalogWith 7).get r).writable = true) :
    SendRuns form (defaultRegCode.get r) (0xF1 + (defaultRegCode.get r).setWidth 16) := by
  refine ⟨?frame, ?selected, ?otherLength, ?drainDue⟩
  case frame =>
    intro s sel p0 p1 hk
    have hw := standard_writable hk hr
    have hfits : RequestFits s.params (form sel p0 p1) := by
      rw [RequestFits, form_send (hform sel p0 p1)]
      exact ⟨hw, (standard_send_delimiter hk hw).2.1⟩
    have hsize : formReplySize s.params (form sel p0 p1) = 7 := by
      rw [formReplySize, form_send (hform sel p0 p1)]
      exact standard_send_replySize hk hr
    rw [encoderEmitsTheWireForm _ s hk.2.2 hfits, hsize, standard_encode_send hk hr (hform sel p0 p1), withChecksum,
      checksum_send]
    rfl
  case selected =>
    intro k sel p0 p1 hk
    rw [← standard_code hk, select_encode_send hk.2.2 (standard_writable hk hr), hform]
  case otherLength =>
    intro s sel p later hk hne hl hp hcalls
    have hw := standard_writable hk hr
    rw [← standard_code hk] at hcalls
    refine step_encode_error hk.2.2 hcalls hp (select_encode_otherLength hk.2.2 hw sel hne hl) ?_
    rw [encodeRequest_write hk.2.2 sel hw hne, if_neg (by rwa [(standard_send_delimiter hk hw).2.1])]
  case drainDue =>
    intro k sel p0 p1 reply sent hk hreply
    rw [standard_send_request hk hr (hform sel p0 p1)]
    simp [exchangeAfterWrite, exchangeAfterRead, exchangeAfterDecode, hreply]

/-- Settles O17: the five writable registers are those with a SEND row. -/
theorem sendFormsComplete : Obligations.SendFormsComplete := by
  unfold Obligations.SendFormsComplete
  exact ⟨sendRuns (r := .ovpThreshold) (fun _ _ _ => rfl) rfl, sendRuns (r := .ocpThreshold) (fun _ _ _ => rfl) rfl,
    sendRuns (r := .setValueVoltage) (fun _ _ _ => rfl) rfl, sendRuns (r := .setValueCurrent) (fun _ _ _ => rfl) rfl,
    sendRuns (r := .powerSupplyControl) (fun _ _ _ => rfl) rfl⟩

end Sys2Proof.Machine
end

section
/-! PROOFS, 42_telegram_decoder: DECODE in both modes, the REPLY forms at the standard table, and a reply decoded for
another register. -/

namespace Sys2Proof.Machine

open Claims

/-- The REPLY form of a register at the standard table: its selection, and its reply size with what it decides. -/
theorem replyRuns (r : Reg) :
    ReplyRuns (Instr.reply r) (defaultRegCode.get r) ((catalogWith 7).get r).replyFrameSize := by
  refine ⟨?selected, ?completes, ?otherLength⟩
  case selected =>
    intro k reply hk
    rw [← standard_code hk]
    simp [select, decodeReplyForm, regOf?_code hk.2.2]
  case completes =>
    intro s h0 h1 h2 k0 k1 payload hk hs hl
    rw [← standard_entry hk] at hl
    have hlen : (h0 :: h1 :: h2 :: payload ++ [k0, k1]).length = payload.length + 5 := by simp
    exact ((replyTakenVerbatimByLength s r _ hk.2.2 hs).2 (hlen.trans hl) (by omega)).2 h0 h1 h2 payload k0 k1 rfl
  case otherLength =>
    intro s reply hk hl
    rw [← standard_entry hk] at hl
    rw [exec_reply hk.2.2, decodeResult, decodeReply_of_length_ne (regOf?_code hk.2.2 r) hl, State.raise]

/-- Settles O18: the five strings by their codes and reply sizes. -/
theorem replyStringFormsComplete : Obligations.ReplyStringFormsComplete := by
  unfold Obligations.ReplyStringFormsComplete
  exact ⟨replyRuns .deviceType, replyRuns .serialNumber, replyRuns .articleNumber, replyRuns .manufacturer,
    replyRuns .softwareVersion⟩

/-- Settles O19: the three ratings by their codes and reply sizes. -/
theorem replyRatingFormsComplete : Obligations.ReplyRatingFormsComplete := by
  unfold Obligations.ReplyRatingFormsComplete
  exact ⟨replyRuns .nominalVoltage, replyRuns .nominalCurrent, replyRuns .nominalPower⟩

/-- Settles O20: the six scalars by their codes, at the reply size 7. -/
theorem replyScalarFormsComplete : Obligations.ReplyScalarFormsComplete := by
  unfold Obligations.ReplyScalarFormsComplete
  exact ⟨replyRuns .deviceClass, replyRuns .ovpThreshold, replyRuns .ocpThreshold, replyRuns .setValueVoltage,
    replyRuns .setValueCurrent, replyRuns .powerSupplyControl⟩

/-- Settles O21: the two status registers by their codes and reply sizes. -/
theorem replyStatusFormsComplete : Obligations.ReplyStatusFormsComplete := by
  unfold Obligations.ReplyStatusFormsComplete
  exact ⟨replyRuns .statusActualValues, replyRuns .statusSetValues⟩

/-- Everything DECODE can answer for a listed register, by its errors in order (42_telegram_decoder R182 to R186). -/
theorem decodeReply_listed_cases {k : Params} {c : Byte} {r : Reg} (hr : k.regOf? c = some r) (reply : Bytes) :
    ((reply.length ≠ (k.entry r).replyFrameSize ∨ (k.entry r).replyFrameSize < 5)
        ∧ decodeReply k c reply = .error .replyLengthMismatch)
    ∨ (reply.length = (k.entry r).replyFrameSize ∧ 5 ≤ reply.length
        ∧ ((k.strictReplyChecksum = true ∧ replyChecksumOk reply = false
              ∧ decodeReply k c reply = .error .replyChecksumMismatch)
          ∨ (¬ (k.strictReplyChecksum = true ∧ replyChecksumOk reply = false)
              ∧ decodeReply k c reply = .ok (slice reply 3 (reply.length - 2))))) := by
  rw [decodeReply_listed hr]
  by_cases hbad : reply.length ≠ (k.entry r).replyFrameSize ∨ (k.entry r).replyFrameSize < overhead
  · exact .inl ⟨hbad, if_pos hbad⟩
  · rw [if_neg hbad]
    rw [not_or, not_not, Nat.not_lt] at hbad
    obtain ⟨hl, h5⟩ := hbad
    refine .inr ⟨hl, hl ▸ h5, ?_⟩
    by_cases hsum : k.strictReplyChecksum = true ∧ replyChecksumOk reply = false
    · exact .inl ⟨hsum.1, hsum.2, if_pos hsum⟩
    · refine .inr ⟨hsum, ?_⟩
      rw [if_neg hsum, hl]
      rfl

/-- Whatever DECODE returns is the middle slice of a reply of the register's length. -/
theorem decodeReply_ok {k : Params} {c : Byte} {reply payload : Bytes} (h : decodeReply k c reply = .ok payload) :
    ∃ r, k.regOf? c = some r ∧ reply.length = (k.entry r).replyFrameSize ∧ 5 ≤ reply.length
      ∧ payload = slice reply 3 (reply.length - 2) := by
  cases hr : k.regOf? c with
  | none =>
    rw [decodeReply_unlisted hr] at h
    cases h
  | some r =>
    rcases decodeReply_listed_cases hr reply with ⟨-, e⟩ | ⟨hl, h5, ⟨-, -, e⟩ | ⟨-, e⟩⟩ <;> rw [e] at h <;> cases h
    exact ⟨r, rfl, hl, h5, rfl⟩

theorem slice_getElem? {s : Bytes} {a b i : Nat} (h : i < (slice s a b).length) : (slice s a b)[i]? = s[a + i]? := by
  simp only [slice, List.length_drop, List.length_take] at h
  rw [slice, List.getElem?_drop, List.getElem?_take_of_lt (by omega)]

/-- Settles O23: without strict mode only the length decides, and only the middle of the reply is returned. -/
theorem decodeLaws : Obligations.DecodeLaws := by
  unfold Obligations.DecodeLaws
  intro k c reply hs
  refine ⟨⟨?succeeds, ?passes⟩, ?payload, ?framing⟩
  case succeeds =>
    rintro ⟨payload, h⟩
    obtain ⟨r, hr, hl, h5, -⟩ := decodeReply_ok h
    exact ⟨r, hr, hl, h5⟩
  case passes =>
    rintro ⟨r, hr, hl, h5⟩
    exact ⟨_, decodeReply_of_length_eq hr hs hl h5⟩
  case payload =>
    intro payload h
    obtain ⟨r, hr, hl, h5, rfl⟩ := decodeReply_ok h
    exact ⟨slice_middle_length h5, fun i hi => slice_getElem? hi⟩
  case framing =>
    intro other hlen hmiddle
    cases hr : k.regOf? c with
    | none => rw [decodeReply_unlisted hr, decodeReply_unlisted hr]
    | some r =>
      by_cases hl : reply.length = (k.entry r).replyFrameSize
      · by_cases h5 : 5 ≤ reply.length
        · rw [decodeReply_of_length_eq hr hs hl h5, decodeReply_of_length_eq hr hs (hlen.trans hl) (hlen.symm ▸ h5)]
          exact congrArg Except.ok hmiddle
        · have hshort : (k.entry r).replyFrameSize < overhead := hl ▸ Nat.not_le.mp h5
          rw [decodeReply_listed hr, decodeReply_listed hr, if_pos (.inr hshort), if_pos (.inr hshort)]
      · rw [decodeReply_of_length_ne hr hl, decodeReply_of_length_ne hr (hlen ▸ hl)]

/-- Settles O25: only the literal 2 is below 5 (admitted_reply), and DECODE refuses such a size at any length. -/
theorem tooShortReplySizeDecodesNothing : Obligations.TooShortReplySizeDecodesNothing := by
  unfold Obligations.TooShortReplySizeDecodesNothing
  refine ⟨by decide, ?onlyTwo, ?fails⟩
  case onlyTwo =>
    intro k r h hsmall
    rcases admitted_reply h r with h5 | ⟨htwo, hscalar, -⟩
    · exact absurd hsmall (Nat.not_lt.mpr h5)
    · exact ⟨hscalar, fun q hq => literalTwo_scalar htwo hq⟩
  case fails =>
    intro s r reply h hsmall
    rw [exec_reply h, decodeResult, decodeReply_listed (regOf?_code h r), if_pos (.inr hsmall), State.raise]

/-- The checksum field of a reply against the sum of the bytes before it (42_telegram_decoder R185). -/
theorem replyChecksumOk_iff (reply : Bytes) :
    replyChecksumOk reply = true
      ↔ unbe16 (reply.drop (reply.length - 2)) = byteSum (reply.take (reply.length - 2)) % 65536 := by
  simp [replyChecksumOk, slice, checksumLen, checksumMod]

/-- Settles O26: at the right length only the checksum is left to decide. -/
theorem strictModeChecksTheSum : Obligations.StrictModeChecksTheSum := by
  unfold Obligations.StrictModeChecksTheSum
  intro s r reply h hs hl h5
  rw [ne_eq, ← replyChecksumOk_iff, exec_reply h, decodeResult]
  rcases decodeReply_listed_cases (regOf?_code h r) reply with ⟨hbad, -⟩ | ⟨-, -, ⟨-, hsum, e⟩ | ⟨hsum, e⟩⟩
  · omega
  · rw [e]
    exact ⟨fun hok => absurd (hok.symm.trans hsum) (by decide), fun _ => rfl⟩
  · rw [e]
    exact ⟨fun _ => rfl, fun hbad => absurd ⟨hs, Bool.eq_false_iff.mpr hbad⟩ hsum⟩

/-- Settles O27: DECODE sees of the register its reply size only. -/
theorem wrongRegisterSameSizePasses : Obligations.WrongRegisterSameSizePasses := by
  unfold Obligations.WrongRegisterSameSizePasses
  intro s r r' reply h hl
  refine ⟨?same, ?other⟩
  case same =>
    intro hsize
    rw [exec_reply h, exec_reply h, decodeResult, decodeResult, decodeReply_listed (regOf?_code h r'),
      decodeReply_listed (regOf?_code h r), hsize]
  case other =>
    intro hsize
    rw [exec_reply h, decodeResult,
      decodeReply_of_length_ne (regOf?_code h r') (fun heq => hsize (heq.symm.trans hl)), State.raise]

end Sys2Proof.Machine
end

section
/-! PROOFS, 40_catalog_lookup sections 2 to 4: the table, entry by entry. -/

namespace Sys2Proof

/-- Settles O2: the entries at reset, read off the table. -/
theorem catalogHoldsTableAtReset : Obligations.CatalogHoldsTableAtReset := by
  unfold Obligations.CatalogHoldsTableAtReset
  exact ⟨rfl, rfl⟩

/-- Settles O3: each law, register by register. -/
theorem catalogLawsOfTheTable : Obligations.CatalogLawsOfTheTable := by
  unfold Obligations.CatalogLawsOfTheTable
  refine ⟨?writable, ?readOnly, ?asymmetric⟩
  case writable =>
    intro r
    cases r <;> decide
  case readOnly =>
    intro r
    cases r <;> decide
  case asymmetric =>
    intro r
    cases r <;> decide

end Sys2Proof
end

section
/-! PROOFS, 10_state section 1 and 60_exceptions section 1: what every one of the 37 forms does and leaves alone. -/

namespace Sys2Proof.Machine

/-- Settles O29: a form delivers its result and does nothing else. -/
theorem formsChangeOnlyTheResult : Obligations.FormsChangeOnlyTheResult := by
  unfold Obligations.FormsChangeOnlyTheResult
  intro i s t h
  obtain ⟨-, rfl⟩ := exec_next h
  exact ⟨rfl, rfl, rfl, rfl, rfl, rfl, rfl, rfl, rfl, Option.some_ne_none _⟩

/-- Settles O30: every form is a delivery behind the Catalog check. -/
theorem formsNeedAnAdmittedCatalog : Obligations.FormsNeedAnAdmittedCatalog := by
  unfold Obligations.FormsNeedAnAdmittedCatalog
  intro i s
  refine ⟨fun h => ⟨_, exec_admitted h i⟩, fun h => ?_⟩
  rw [exec_eq, withCatalog, if_neg (Bool.eq_false_iff.mp h)]

/-- Settles O31: what a form delivers is a function of the parameters and its operands. -/
theorem resultsIgnoreHistory : Obligations.ResultsIgnoreHistory := by
  unfold Obligations.ResultsIgnoreHistory
  intro i s s' t t' hp h h'
  obtain ⟨-, rfl⟩ := exec_next h
  obtain ⟨-, rfl⟩ := exec_next h'
  rw [State.deliver_result, State.deliver_result, hp]

/-- ENCODE of a listed register reports success or a wrong payload length (60_exceptions R242). -/
theorem encodeResult_status {k : Params} {c : Byte} {r : Reg} (hr : k.regOf? c = some r) (sel : Byte)
    (payload : Option Bytes) : statusCode (encodeResult k c sel payload) = 0
      ∨ statusCode (encodeResult k c sel payload) = 2 := by
  rw [encodeResult]
  rcases encodeRequest_cases k c sel payload with ⟨hn, -⟩ | ⟨r, -, -, ⟨-, e⟩ | ⟨p, -, -, -, ⟨-, e⟩ | ⟨-, e⟩⟩⟩
  · rw [hn] at hr
    cases hr
  · rw [e]
    exact .inl rfl
  · rw [e]
    exact .inl rfl
  · rw [e]
    exact .inr rfl

/-- DECODE of a listed register reports success, a wrong length, or in strict mode a wrong checksum (60_exceptions R243,
R246). -/
theorem decodeResult_status {k : Params} {c : Byte} {r : Reg} (hr : k.regOf? c = some r) (reply : Bytes) :
    statusCode (decodeResult k c reply) = 0 ∨ statusCode (decodeResult k c reply) = 3
      ∨ (statusCode (decodeResult k c reply) = 5 ∧ k.strictReplyChecksum = true) := by
  rw [decodeResult]
  rcases decodeReply_listed_cases hr reply with ⟨-, e⟩ | ⟨-, -, ⟨hs, -, e⟩ | ⟨-, e⟩⟩
  · rw [e]
    exact .inr (.inl rfl)
  · rw [e]
    exact .inr (.inr ⟨rfl, hs⟩)
  · rw [e]
    exact .inl rfl

/-- The codes a form can report, by its format: a form's code is its register's, so ENC and DEC find it listed. -/
theorem formResult_status {k : Params} (h : k.admitted = true) (f : Form) :
    ((∀ r reply, f ≠ .reply r reply) ∧ (statusCode (formResult k f) = 0 ∨ statusCode (formResult k f) = 2))
    ∨ ((∃ r reply, f = .reply r reply) ∧ (statusCode (formResult k f) = 0 ∨ statusCode (formResult k f) = 3
        ∨ (statusCode (formResult k f) = 5 ∧ k.strictReplyChecksum = true))) := by
  cases f with
  | query r sel => exact .inl ⟨nofun, encodeResult_status (regOf?_code h r) sel none⟩
  | send r sel p0 p1 => exact .inl ⟨nofun, encodeResult_status (regOf?_code h r) sel (some [p0, p1])⟩
  | reply r reply => exact .inr ⟨⟨r, reply, rfl⟩, decodeResult_status (regOf?_code h r) reply⟩

/-- Settles O32: the codes of the form's unit, for a listed register. -/
theorem formsReportTheirOwnErrors : Obligations.FormsReportTheirOwnErrors := by
  unfold Obligations.FormsReportTheirOwnErrors
  intro i s t r h hr
  obtain ⟨hk, rfl⟩ := exec_next h
  cases hr
  rcases formResult_status hk i.form with ⟨hno, e | e⟩ | ⟨⟨reg, reply, hf⟩, e | e | ⟨e, hs⟩⟩ <;> rw [e]
  · exact ⟨by decide, nofun, fun _ _ _ => by decide, fun _ => by decide⟩
  · exact ⟨by decide, nofun, fun _ _ hf => absurd hf (hno _ _), fun _ => by decide⟩
  · exact ⟨by decide, nofun, fun _ _ _ => by decide, fun hno => absurd hf (hno _ _)⟩
  · exact ⟨by decide, nofun, fun _ _ _ => by decide, fun hno => absurd hf (hno _ _)⟩
  · exact ⟨by decide, fun _ => hs, fun _ _ _ => by decide, fun hno => absurd hf (hno _ _)⟩

end Sys2Proof.Machine
end

section
/-! PROOFS, 10_state section 1 and 30_encoding section 6: a step is the operation that the oldest invocation names, also
where a telegram form is selected for it; what no bound lets through. -/

namespace Sys2Proof.Machine

/-- In query mode ENCODE does not look at the payload (41_telegram_encoder R134). -/
theorem encodeResult_queryMode {k : Params} {c : Byte} {r : Reg} (hr : k.regOf? c = some r) (sel : Byte)
    {payload : Option Bytes} (hm : frameMode (k.entry r).writable (payloadPresent payload) = .query) :
    encodeResult k c sel payload = encodeResult k c sel none := by
  have hnone : frameMode (k.entry r).writable (payloadPresent none) = .query := frameMode_absent _
  simp [encodeResult, encodeRequest, lookup, hr, hm, hnone, effectivePayload]

/-- The form ENCODE's inputs select gives what ENCODE gives for them. -/
theorem formResult_selectRequest {k : Params} {c sel : Byte} {payload : Option Bytes} {i : Instr}
    (h : selectRequest k c sel payload = some i) : formResult k i.form = encodeResult k c sel payload := by
  unfold selectRequest at h
  split at h
  · cases h
  · rename_i r hr
    have hcode := regOf?_some hr
    split at h
    · rename_i hm
      cases h
      rw [form_query, formResult, hcode, encodeResult_queryMode hr sel hm]
    · rw [form_send h, formResult, hcode]
    · cases h

/-- The form that DECODE's register selects gives what DECODE gives for it. -/
theorem formResult_decodeReplyForm {k : Params} {c : Byte} {reply : Bytes} {i : Instr}
    (h : decodeReplyForm k c reply = some i) : formResult k i.form = decodeResult k c reply := by
  obtain ⟨r, hr, rfl⟩ := Option.map_eq_some_iff.mp h
  rw [form_reply, formResult, regOf?_some hr]

/-- Wire bytes select the form they decode to. -/
theorem select_wireForm {k : Params} {bytes : Bytes} {i : Instr} :
    select k (.wireForm bytes) = some i ↔ ∃ rest, decode k bytes = .ok (i, rest) := by
  cases hd : decode k bytes with
  | ok p => simp [select, hd, Prod.ext_iff]
  | error why => simp [select, hd]

/-- Running the form that an invocation selects is running the unit it names. -/
theorem exec_eq_runCall {s : State} {call : Call} {i : Instr} (h : select s.params call = some i) :
    exec i s = runCall call s := by
  cases call
  case encode c sel payload => rw [exec_eq, formResult_selectRequest h, runCall]
  case decode c reply => rw [exec_eq, formResult_decodeReplyForm h, runCall]
  case wireForm bytes =>
    obtain ⟨rest, hd⟩ := select_wireForm.mp h
    simp [runCall, hd]
  all_goals cases h

@[simp] theorem State.noted_params (s : State) (call : Call) : (s.noted call).params = s.params := by
  cases call <;> rfl

/-- DECODE moves the caller's exchange on (70_reset_and_hazards R284). -/
theorem noted_decode (s : State) (c : Byte) (reply : Bytes) :
    s.noted (.decode c reply) = s.withExchange (exchangeAfterDecode c reply s.exchange) := rfl

/-- A step is the unit operation of the oldest invocation. -/
theorem step_eq_runCall {s : State} {call : Call} {later : List Call} (hc : s.calls = call :: later)
    (hp : presentable s.params call = true) : step s = runCall call ((s.withCalls later).noted call) := by
  cases hsel : select s.params call with
  | none => exact step_operation hc hp hsel
  | some i =>
    rw [step_form hc hp hsel]
    exact exec_eq_runCall (by rwa [State.noted_params])

/-- Settles O40: a selected form delivers what its unit would (exec_eq_runCall). -/
theorem stepIsTheUnitOperation : Obligations.StepIsTheUnitOperation := by
  unfold Obligations.StepIsTheUnitOperation
  intro s call later hc hp
  exact step_eq_runCall hc hp

/-- Settles O39: wire bytes and DECODE are two of the ways to select a form. -/
theorem stepRunsTheSelectedForm : Obligations.StepRunsTheSelectedForm := by
  unfold Obligations.StepRunsTheSelectedForm
  intro s later i
  refine ⟨?selected, ?wireForm, ?decode, ?others⟩
  case selected => exact fun call hc hp hsel => step_form hc hp hsel
  case wireForm =>
    intro bytes rest hc hd
    rw [step_form hc rfl (select_wireForm.mpr ⟨rest, hd⟩), noted_of_not_decode (call := .wireForm bytes) nofun]
  case decode =>
    intro c reply hc hp hsel
    rw [step_form hc hp hsel, noted_decode, State.withCalls_exchange]
  case others => exact fun call h => noted_of_not_decode h s

/-- A payload that cannot be presented is longer than any size class (92_eei_decisions D2). -/
theorem admitted_unpresentable_length {k : Params} (h : k.admitted = true) {c sel : Byte} {p : Bytes}
    (hp : presentable k (.encode c sel (some p)) = false) : 16 < p.length := by
  by_contra hle
  have hfits : presentable k (.encode c sel (some p)) = true := admitted_payload_presentable h (Nat.not_lt.mp hle)
  rw [hp] at hfits
  cases hfits

/-- Settles O41: an admitted bound is above every reply size and every size class, so what exceeds it has no length the
Catalog calls for. -/
theorem inputBoundsRefuseLongInputs : Obligations.InputBoundsRefuseLongInputs := by
  unfold Obligations.InputBoundsRefuseLongInputs
  refine ⟨?refused, fun k c sel payload reply h => ⟨?decodeFails, ?encode, ?reply, ?payload⟩, ?unbounded⟩
  case refused =>
    intro s call later hc hp
    simp [step, invoke, hc, hp]
  case decodeFails =>
    intro hp
    cases hd : decodeReply k c reply with
    | error e => exact ⟨e, rfl⟩
    | ok payload =>
      obtain ⟨r, -, hl, -⟩ := decodeReply_ok hd
      rw [presentable, hl, admitted_presentable h r] at hp
      cases hp
  case encode =>
    intro hp
    have hlong := admitted_unpresentable_length h hp
    refine ⟨fun hr => ?_, fun r hr => ?_⟩
    · simp [encodeRequest, lookup, hr]
    · obtain rfl := regOf?_some hr
      have hsize := (admitted_sizes h r).2
      have hne : payload ≠ [] := List.ne_nil_of_length_pos (Nat.zero_lt_of_lt hlong)
      refine ⟨fun hw => ?_, fun hro => encodeRequest_query h sel (by rw [hro, frameMode_readOnly])⟩
      rw [encodeRequest_write h sel hw hne, if_neg (by omega)]
  case reply =>
    intro r hl
    rw [presentable, hl]
    exact admitted_presentable h r
  case payload =>
    intro r hl
    exact admitted_payload_presentable h (hl ▸ (admitted_sizes h r).2)
  case unbounded =>
    intro k call hpay hreply
    cases call <;> simp [presentable, withinBound, hpay, hreply]

end Sys2Proof.Machine
end

section
/-! PROOFS, 10_state section 2 and 70_reset_and_hazards section 4: what every operation keeps, whatever it does. -/

namespace Sys2Proof.Machine

/-- What no operation changes: the parameters, the invocations ahead, and the loss of the link. -/
structure Follows (s t : State) : Prop where
  params : t.params = s.params
  calls : t.calls = s.calls
  link : s.link = .desynchronised → t.link = .desynchronised

theorem Follows.refl (s : State) : Follows s s := ⟨rfl, rfl, id⟩

theorem Follows.trans {s t u : State} (h : Follows s t) (h' : Follows t u) : Follows s u :=
  ⟨h'.params.trans h.params, h'.calls.trans h.calls, fun hl => h'.link (h.link hl)⟩

theorem follows_deliver (s : State) (r : Result) : Follows s (s.deliver r) := ⟨rfl, rfl, id⟩

theorem follows_noted (s : State) (call : Call) : Follows s (s.noted call) := by
  obtain ⟨exchange, he⟩ := noted_eq call s
  rw [he]
  exact ⟨rfl, rfl, id⟩

theorem Link.keptIf_of_desynchronised {link : Link} (h : link = .desynchronised) (kept : Bool) :
    link.keptIf kept = .desynchronised := by
  rw [h, Link.keptIf_desynchronised]

theorem transportWrite_follows (bytes : Bytes) (s : State) : Follows s (transportWrite bytes s) := by
  rcases transportWrite_cases bytes s with ⟨fates, e⟩ | ⟨sent, fates, -, e⟩ <;> rw [e]
  · exact ⟨rfl, rfl, fun hl => Link.keptIf_of_desynchronised hl _⟩
  · exact ⟨rfl, rfl, fun _ => rfl⟩

/-- Everything `readExactly` can do with a next state. -/
theorem transportRead_next {n : Nat} {s t : State} (h : transportRead n s = .next t) :
    (∃ taken rest wire, pull n s.rx s.wire = .got taken rest wire
        ∧ t = (((s.withReceive rest wire).withExchange (exchangeAfterRead taken s.exchange)).withLink
            (s.link.keptIf (readKeepsLink n (rest == [] && arrivals wire == []) s.exchange))).deliver (.received taken))
    ∨ ∃ rest wire, t = (((s.withReceive rest wire).withExchange (exchangeAfterFailure s.exchange)).withLink
        .desynchronised).raise .transport := by
  rcases transportRead_cases n s with ⟨taken, rest, wire, hpull, e⟩ | ⟨rest, wire, -, e⟩ | ⟨-, e⟩
  · exact .inl ⟨taken, rest, wire, hpull, Host.Outcome.next.inj (h.symm.trans e)⟩
  · exact .inr ⟨rest, wire, Host.Outcome.next.inj (h.symm.trans e)⟩
  · cases h.symm.trans e

theorem transportRead_follows {n : Nat} {s t : State} (h : transportRead n s = .next t) : Follows s t := by
  rcases transportRead_next h with ⟨taken, rest, wire, -, rfl⟩ | ⟨rest, wire, rfl⟩
  · exact ⟨rfl, rfl, fun hl => Link.keptIf_of_desynchronised hl _⟩
  · exact ⟨rfl, rfl, fun _ => rfl⟩

theorem discardPending_follows (s : State) : Follows s (discardPending s) :=
  ⟨rfl, rfl, fun hl => Link.keptIf_of_desynchronised hl _⟩

theorem drainAfter_follows (due : Bool) (s : State) : Follows s (drainAfter due s) := by
  unfold drainAfter
  split
  · split
    · exact discardPending_follows s
    · exact .refl s
  · exact .refl s

theorem roundTrip_follows {c : Byte} {frame : Bytes} {expected : Nat} {s t : State}
    (h : roundTrip c frame expected s = .next t) : Follows s t := by
  have hw := transportWrite_follows frame s
  rcases roundTrip_next h with ⟨-, rfl⟩ | ⟨hr, -⟩ | ⟨u, reply, hr, -, rfl⟩
  · exact hw
  · exact hw.trans (transportRead_follows hr)
  · exact (hw.trans (transportRead_follows hr)).trans ⟨rfl, rfl, id⟩

/-- Everything MemRead can do with a next state (20_memory R64). -/
theorem memRead_next {sel c : Byte} {s t : State} (h : memRead sel c s = .next t) :
    (∃ e, encodeRequest s.params c sel none = .error e ∧ t = s.raise e)
    ∨ ∃ frame expected, encodeRequest s.params c sel none = .ok (frame, expected)
        ∧ roundTrip c frame expected s = .next t := by
  unfold memRead at h
  split at h
  · exact .inl ⟨_, ‹_›, (Host.Outcome.next.inj h).symm⟩
  · exact .inr ⟨_, _, ‹_›, h⟩

/-- Everything MemWrite can do with a next state (20_memory R65). -/
theorem memWrite_next {sel c : Byte} {v : Bytes} {b : Bool} {s t : State} (h : memWrite sel c v b s = .next t) :
    (∃ e, encodeRequest s.params c sel (some v) = .error e ∧ t = s.raise e)
    ∨ ∃ frame expected u, encodeRequest s.params c sel (some v) = .ok (frame, expected)
        ∧ roundTrip c frame expected s = .next u ∧ t = drainAfter (isSendFrame frame || b) u := by
  unfold memWrite at h
  split at h
  · exact .inl ⟨_, ‹_›, (Host.Outcome.next.inj h).symm⟩
  · split at h
    · exact .inr ⟨_, _, _, ‹_›, ‹_›, (Host.Outcome.next.inj h).symm⟩
    · cases h
    · cases h

theorem memRead_follows {sel c : Byte} {s t : State} (h : memRead sel c s = .next t) : Follows s t := by
  rcases memRead_next h with ⟨e, -, rfl⟩ | ⟨frame, expected, -, hr⟩
  · exact follows_deliver s _
  · exact roundTrip_follows hr

theorem memWrite_follows {sel c : Byte} {v : Bytes} {b : Bool} {s t : State} (h : memWrite sel c v b s = .next t) :
    Follows s t := by
  rcases memWrite_next h with ⟨e, -, rfl⟩ | ⟨frame, expected, u, -, hr, rfl⟩
  · exact follows_deliver s _
  · exact (roundTrip_follows hr).trans (drainAfter_follows _ u)

theorem receiveNext_follows (s : State) : Follows s (receiveNext s) := by
  unfold receiveNext
  split <;> exact ⟨rfl, rfl, id⟩

/-- A unit that answers has found its Catalog admitted (10_state R28). -/
theorem withCatalog_next {s t : State} {answer : Host.Outcome State Fault Refusal}
    (h : withCatalog s answer = .next t) : s.params.admitted = true ∧ answer = .next t := by
  unfold withCatalog at h
  split at h
  · exact ⟨‹_›, h⟩
  · cases h

theorem exec_follows {i : Instr} {s t : State} (h : exec i s = .next t) : Follows s t := by
  obtain ⟨-, rfl⟩ := exec_next h
  exact follows_deliver s _

/-- A PCT16_ENC that answers delivers its raw value. -/
theorem invokePct16Encode_next {physical nominal : Rat} {s t : State}
    (h : invokePct16Encode physical nominal s = .next t) :
    ∃ raw, pct16Encode s.params.numerics physical nominal = some raw ∧ t = s.deliver (.rawValue raw) := by
  unfold invokePct16Encode at h
  split at h
  · exact ⟨_, ‹_›, (Host.Outcome.next.inj h).symm⟩
  · cases h

theorem runCall_wireForm_next {bytes : Bytes} {s t : State} (h : runCall (.wireForm bytes) s = .next t) :
    ∃ i rest, decode s.params bytes = .ok (i, rest) ∧ exec i s = .next t := by
  unfold runCall at h
  simp only at h
  split at h
  · exact ⟨_, _, ‹_›, h⟩
  · cases h

theorem runCall_follows {call : Call} {s t : State} (h : runCall call s = .next t) : Follows s t := by
  cases call
  case lookup c => cases (withCatalog_next h).2; exact follows_deliver s _
  case encode c sel payload => cases (withCatalog_next h).2; exact follows_deliver s _
  case decode c reply => cases (withCatalog_next h).2; exact follows_deliver s _
  case wireForm bytes =>
    obtain ⟨i, rest, -, hi⟩ := runCall_wireForm_next h
    exact exec_follows hi
  case write bytes => cases h; exact transportWrite_follows bytes s
  case read n => exact transportRead_follows h
  case drain => cases h; exact (discardPending_follows s).trans (follows_deliver _ _)
  case memRead sel c => exact memRead_follows (withCatalog_next h).2
  case memWrite sel c v b => exact memWrite_follows (withCatalog_next h).2
  case pct16Encode p n =>
    obtain ⟨raw, -, rfl⟩ := invokePct16Encode_next h
    exact follows_deliver s _
  case u16Bytes raw => cases h; exact follows_deliver s _
  case pct16Decode hi lo n => cases h; exact follows_deliver s _
  case float32 b3 b2 b1 b0 => cases h; exact follows_deliver s _
  case receive => cases h; exact receiveNext_follows s
  case reset => cases h; exact ⟨rfl, rfl, fun hl => Link.keptIf_of_desynchronised hl _⟩

/-- Everything a step can do, by unit operations: it runs the oldest invocation, which can be presented. -/
theorem step_runCall {s t : State} (h : step s = .next t) :
    ∃ call later, s.calls = call :: later ∧ presentable s.params call = true
      ∧ runCall call ((s.withCalls later).noted call) = .next t := by
  obtain ⟨call, later, hc, hp, -⟩ := step_next h
  exact ⟨call, later, hc, hp, (step_eq_runCall hc hp).symm.trans h⟩

theorem step_follows {s t : State} (h : step s = .next t) :
    ∃ call later, s.calls = call :: later ∧ Follows (s.withCalls later) t := by
  obtain ⟨call, later, hc, -, hr⟩ := step_runCall h
  exact ⟨call, later, hc, (follows_noted _ call).trans (runCall_follows hr)⟩

/-- Settles O42: a step takes the oldest invocation off the list, and no operation touches the rest of it. -/
theorem noStepWithoutInvocation : Obligations.NoStepWithoutInvocation := by
  unfold Obligations.NoStepWithoutInvocation
  intro s t
  refine ⟨fun hc => by simp [step, hc], fun h => ?_⟩
  obtain ⟨call, later, hc, hf⟩ := step_follows h
  have hcalls : t.calls = later := hf.calls
  exact ⟨call, by rw [hc, hcalls]⟩

/-- Settles O43: no operation changes a parameter. -/
theorem catalogIsReadOnly : Obligations.CatalogIsReadOnly := by
  unfold Obligations.CatalogIsReadOnly
  intro s t h
  obtain ⟨call, later, -, hf⟩ := step_follows h
  exact hf.params

/-- Settles O46: no operation takes the link back into step. -/
theorem desynchronisedForever : Obligations.DesynchronisedForever := by
  unfold Obligations.DesynchronisedForever
  intro s t hl h
  obtain ⟨call, later, -, hf⟩ := step_follows h
  exact hf.link hl

end Sys2Proof.Machine
end

section
/-! PROOFS, 10_state section 2: the invariant (an admitted Catalog, outputs and an exchange that fit it), kept by every
operation. -/

namespace Sys2Proof.Machine

/-- Bytes that are a request on the link are some register's (30_encoding R74 to R86). -/
theorem requestFits_of_requestOnLink? {k : Params} {bytes : Bytes} {req : Request}
    (h : requestOnLink? k bytes = some req) : requestFits k req := by
  obtain ⟨d, sel, c, tail, r, -, hr, ⟨-, -, -, -, hw, -⟩, rfl⟩ := requestOnLink?_eq_some_iff.mp h
  exact ⟨r, regOf?_some hr, rfl, fun hsend => hw (eq_of_beq hsend)⟩

/-! Each move of the caller's exchange keeps it fitting. -/

theorem exchangeFits_afterWrite {k : Params} {bytes : Bytes} {exchange : Exchange} (h : exchangeFits k exchange)
    (sent : Nat) : exchangeFits k (exchangeAfterWrite (requestOnLink? k bytes) sent exchange) := by
  cases hr : requestOnLink? k bytes with
  | none => exact h
  | some req => exact requestFits_of_requestOnLink? hr

theorem exchangeFits_afterRead {k : Params} {exchange : Exchange} (h : exchangeFits k exchange) (taken : Bytes) :
    exchangeFits k (exchangeAfterRead taken exchange) := by
  cases exchange with
  | written r sent =>
    rw [exchangeAfterRead]
    split
    · exact ⟨h, ‹_›⟩
    · exact h
  | none => exact h
  | received r reply => exact h
  | drainDue => exact h

theorem exchangeFits_afterFailure (k : Params) (exchange : Exchange) :
    exchangeFits k (exchangeAfterFailure exchange) := by
  rcases exchangeAfterFailure_cases exchange with e | e <;> rw [e] <;> trivial

theorem exchangeFits_afterDecode {k : Params} {exchange : Exchange} (h : exchangeFits k exchange) (c : Byte)
    (reply : Bytes) : exchangeFits k (exchangeAfterDecode c reply exchange) := by
  cases exchange with
  | received r received =>
    rw [exchangeAfterDecode]
    split
    · split <;> trivial
    · exact h
  | none => exact h
  | written r sent => exact h
  | drainDue => exact h

theorem exchangeFits_afterDrain {k : Params} {exchange : Exchange} (h : exchangeFits k exchange) :
    exchangeFits k (exchangeAfterDrain exchange) := by
  cases exchange with
  | drainDue => trivial
  | none => exact h
  | written r sent => exact h
  | received r reply => exact h

/-! What each unit answers fits the Catalog. -/

theorem resultFits_lookupResult (k : Params) (c : Byte) : resultFits k (lookupResult k c) := by
  rw [lookupResult]
  rcases lookup_cases k c with ⟨r, -, -, e⟩ | ⟨-, -, e⟩ <;> rw [e]
  · exact ⟨r, rfl⟩
  · trivial

theorem resultFits_encodeResult {k : Params} (h : k.admitted = true) (c sel : Byte) (payload : Option Bytes) :
    resultFits k (encodeResult k c sel payload) := by
  cases he : encodeRequest k c sel payload with
  | error e =>
    rw [encodeResult, he]
    trivial
  | ok p =>
    obtain ⟨isSend, hr⟩ := requestOnLink?_encoded h he
    rw [encodeResult, he]
    exact ⟨_, hr, rfl⟩

theorem resultFits_decodeResult (k : Params) (c : Byte) (reply : Bytes) : resultFits k (decodeResult k c reply) := by
  cases hd : decodeReply k c reply with
  | error e =>
    rw [decodeResult, hd]
    trivial
  | ok payload =>
    obtain ⟨r, -, hl, h5, rfl⟩ := decodeReply_ok hd
    rw [decodeResult, hd]
    exact .inr ⟨r, (slice_middle_length h5).trans hl⟩

theorem resultFits_formResult {k : Params} (h : k.admitted = true) (f : Form) : resultFits k (formResult k f) := by
  cases f with
  | query r sel => exact resultFits_encodeResult h _ _ _
  | send r sel p0 p1 => exact resultFits_encodeResult h _ _ _
  | reply r reply => exact resultFits_decodeResult k _ _

/-- The invariant looks at the parameters, the result and the exchange only: an operation that answers a fitting result
and a fitting exchange keeps it. -/
theorem State.Inv.keep {s t : State} (h : s.Inv) (hp : t.params = s.params)
    (hr : t.result = s.result ∨ ∀ r, t.result = some r → resultFits s.params r)
    (he : exchangeFits s.params t.exchange) : t.Inv := by
  obtain ⟨hk, hres, -⟩ := h
  rw [State.Inv, hp]
  refine ⟨hk, ?_, he⟩
  rcases hr with hsame | hfits
  · rwa [hsame]
  · exact hfits

/-- Delivering a fitting result keeps the invariant. -/
theorem State.Inv.deliver {s : State} (h : s.Inv) {r : Result} (hr : resultFits s.params r) : (s.deliver r).Inv :=
  h.keep rfl (.inr fun _ hsome => Option.some.inj hsome ▸ hr) h.2.2

theorem State.Inv.withExchange {s : State} (h : s.Inv) {exchange : Exchange} (he : exchangeFits s.params exchange) :
    (s.withExchange exchange).Inv :=
  h.keep rfl (.inl rfl) he

theorem State.Inv.withCalls {s : State} (h : s.Inv) (calls : List Call) : (s.withCalls calls).Inv := h

theorem State.Inv.noted {s : State} (h : s.Inv) (call : Call) : (s.noted call).Inv := by
  by_cases hd : ∃ c reply, call = .decode c reply
  · obtain ⟨c, reply, rfl⟩ := hd
    exact h.withExchange (exchangeFits_afterDecode h.2.2 c reply)
  · rw [noted_of_not_decode (fun c reply heq => hd ⟨c, reply, heq⟩)]
    exact h

theorem transportWrite_inv {s : State} (h : s.Inv) (bytes : Bytes) : (transportWrite bytes s).Inv := by
  rcases transportWrite_cases bytes s with ⟨fates, e⟩ | ⟨sent, fates, -, e⟩ <;> rw [e]
  · exact h.keep rfl (.inr fun _ hsome => Option.some.inj hsome ▸ trivial) (exchangeFits_afterWrite h.2.2 _)
  · exact h.keep rfl (.inr fun _ hsome => Option.some.inj hsome ▸ trivial) (exchangeFits_afterFailure _ _)

theorem transportRead_inv {n : Nat} {s t : State} (h : s.Inv) (ht : transportRead n s = .next t) : t.Inv := by
  rcases transportRead_next ht with ⟨taken, rest, wire, -, rfl⟩ | ⟨rest, wire, rfl⟩
  · exact h.keep rfl (.inr fun _ hsome => Option.some.inj hsome ▸ trivial) (exchangeFits_afterRead h.2.2 _)
  · exact h.keep rfl (.inr fun _ hsome => Option.some.inj hsome ▸ trivial) (exchangeFits_afterFailure _ _)

theorem discardPending_inv {s : State} (h : s.Inv) : (discardPending s).Inv :=
  h.keep rfl (.inl rfl) (exchangeFits_afterDrain h.2.2)

theorem drainAfter_inv {s : State} (h : s.Inv) (due : Bool) : (drainAfter due s).Inv := by
  unfold drainAfter
  split
  · split
    · exact discardPending_inv h
    · exact h
  · exact h

theorem roundTrip_inv {c : Byte} {frame : Bytes} {expected : Nat} {s t : State} (h : s.Inv)
    (ht : roundTrip c frame expected s = .next t) : t.Inv := by
  have hw := transportWrite_inv h frame
  rcases roundTrip_next ht with ⟨-, rfl⟩ | ⟨hr, -⟩ | ⟨u, reply, hr, -, rfl⟩
  · exact hw
  · exact transportRead_inv hw hr
  · have hu := transportRead_inv hw hr
    exact (hu.withExchange (exchangeFits_afterDecode hu.2.2 c reply)).deliver (resultFits_decodeResult _ c reply)

theorem receiveNext_inv {s : State} (h : s.Inv) : (receiveNext s).Inv := by
  unfold receiveNext
  split <;> exact h

theorem exec_inv {i : Instr} {s t : State} (h : s.Inv) (ht : exec i s = .next t) : t.Inv := by
  obtain ⟨hk, rfl⟩ := exec_next ht
  exact h.deliver (resultFits_formResult hk _)

theorem runCall_inv {call : Call} {s t : State} (h : s.Inv) (ht : runCall call s = .next t) : t.Inv := by
  cases call
  case lookup c => cases (withCatalog_next ht).2; exact h.deliver (resultFits_lookupResult _ c)
  case encode c sel payload => cases (withCatalog_next ht).2; exact h.deliver (resultFits_encodeResult h.1 _ _ _)
  case decode c reply => cases (withCatalog_next ht).2; exact h.deliver (resultFits_decodeResult _ _ _)
  case wireForm bytes =>
    obtain ⟨i, rest, -, hi⟩ := runCall_wireForm_next ht
    exact exec_inv h hi
  case write bytes => cases ht; exact transportWrite_inv h bytes
  case read n => exact transportRead_inv h ht
  case drain => cases ht; exact (discardPending_inv h).deliver trivial
  case memRead sel c =>
    rcases memRead_next (withCatalog_next ht).2 with ⟨e, -, rfl⟩ | ⟨frame, expected, -, hr⟩
    · exact h.deliver trivial
    · exact roundTrip_inv h hr
  case memWrite sel c v b =>
    rcases memWrite_next (withCatalog_next ht).2 with ⟨e, -, rfl⟩ | ⟨frame, expected, u, -, hr, rfl⟩
    · exact h.deliver trivial
    · exact drainAfter_inv (roundTrip_inv h hr) _
  case pct16Encode p n =>
    obtain ⟨raw, -, rfl⟩ := invokePct16Encode_next ht
    exact h.deliver trivial
  case u16Bytes raw => cases ht; exact h.deliver (.inl rfl)
  case pct16Decode hi lo n => cases ht; exact h.deliver trivial
  case float32 b3 b2 b1 b0 => cases ht; exact h.deliver trivial
  case receive => cases ht; exact receiveNext_inv h
  case reset => cases ht; exact h.keep rfl (.inr nofun) trivial

/-- Settles O45: taking the invocation off and noting it keep the invariant, and so does every operation. -/
theorem stepKeepsInvariant : Obligations.StepKeepsInvariant := by
  unfold Obligations.StepKeepsInvariant
  intro s t h ht
  obtain ⟨call, later, -, -, hr⟩ := step_runCall ht
  exact runCall_inv ((h.withCalls later).noted call) hr

/-- Settles O44: at reset nothing is under way, and the default table is admitted. -/
theorem resetLeavesTableAndNoOutput : Obligations.ResetLeavesTableAndNoOutput := by
  unfold Obligations.ResetLeavesTableAndNoOutput
  exact ⟨rfl, rfl, ⟨rfl, rfl, rfl⟩, rfl, ⟨standard_admitted, nofun, trivial⟩, rfl, rfl, rfl, rfl⟩

/-- Settles O55: a reset is always presented, runs as itself, and keeps the link exactly if no exchange is under
way. -/
theorem resetDuringExchange : Obligations.ResetDuringExchange := by
  unfold Obligations.ResetDuringExchange
  intro s later hc
  refine ⟨resetBlock (s.withCalls later), step_eq_runCall hc rfl, rfl, rfl, rfl, rfl, rfl, rfl, rfl, rfl, ?_, ?_⟩
  · intro he
    simp [resetBlock, he]
  · intro he
    have hkept : (s.exchange == .none) = false := beq_false_of_ne he
    simp [resetBlock, hkept]

end Sys2Proof.Machine
end

section
/-! PROOFS, 70_reset_and_hazards sections 3 to 5: what the transport primitives do to the bytes and to the link, what a
transport error leaves, and what can wait without end. -/

namespace Sys2Proof.Machine

/-! A primitive runs on the state with its invocation taken off. -/

theorem step_read {s : State} {n : Nat} {later : List Call} (hc : s.calls = .read n :: later) :
    step s = transportRead n (s.withCalls later) :=
  step_eq_runCall hc rfl

theorem step_write {s : State} {bytes : Bytes} {later : List Call} (hc : s.calls = .write bytes :: later) :
    step s = .next (transportWrite bytes (s.withCalls later)) :=
  step_eq_runCall hc rfl

theorem step_drain {s : State} {later : List Call} (hc : s.calls = .drain :: later) :
    step s = .next ((discardPending (s.withCalls later)).deliver .drained) :=
  step_eq_runCall hc rfl

theorem step_receive {s : State} {later : List Call} (hc : s.calls = .receive :: later) :
    step s = .next (receiveNext (s.withCalls later)) :=
  step_eq_runCall hc rfl

theorem step_memRead {s : State} {sel c : Byte} {later : List Call} (hc : s.calls = .memRead sel c :: later) :
    step s = withCatalog (s.withCalls later) (memRead sel c (s.withCalls later)) :=
  step_eq_runCall hc rfl

theorem step_memWrite {s : State} {sel c : Byte} {v : Bytes} {b : Bool} {later : List Call}
    (hc : s.calls = .memWrite sel c v b :: later) (hp : presentable s.params (.memWrite sel c v b) = true) :
    step s = withCatalog (s.withCalls later) (memWrite sel c v b (s.withCalls later)) :=
  step_eq_runCall hc hp

/-- The bytes that the device has sent and nobody has read: those that have arrived, and those to come. -/
def State.pending (s : State) : Bytes := s.rx ++ arrivals s.wire

theorem State.quiet_iff (s : State) : s.quiet = true ↔ s.pending = [] := by
  simp [State.quiet, State.pending]

theorem State.quiet_iff_parts (s : State) : s.quiet = true ↔ s.rx = [] ∧ arrivals s.wire = [] := by
  rw [State.quiet_iff, State.pending, List.append_eq_nil_iff]

/-- The passing of time loses no byte (10_state R34 (b)). -/
theorem receiveNext_pending (s : State) : (receiveNext s).pending = s.pending := by
  unfold receiveNext
  split <;> simp_all [State.pending, arrivals]

theorem receiveNext_tx (s : State) : (receiveNext s).tx = s.tx := by
  unfold receiveNext
  split <;> rfl

/-- Settles O49: a read takes the oldest bytes (pull_got), a write appends, a drain splits what is to come
(arrivals_split), and time only moves bytes. -/
theorem transportPrimitives : Obligations.TransportPrimitives := by
  unfold Obligations.TransportPrimitives
  intro s t later h
  refine ⟨?read, ?write, ?drain, ?receive⟩
  case read =>
    intro n bytes hc hr
    rw [step_read hc] at h
    rcases transportRead_next h with ⟨taken, rest, wire, hpull, rfl⟩ | ⟨rest, wire, rfl⟩
    · obtain rfl : taken = bytes := Result.received.inj (Option.some.inj hr)
      obtain ⟨hlen, hbytes⟩ := pull_got hpull
      exact ⟨hlen, hbytes, rfl⟩
    · cases hr
  case write =>
    intro bytes hc hr
    rw [step_write hc] at h
    cases h
    rcases transportWrite_cases bytes (s.withCalls later) with ⟨fates, e⟩ | ⟨sent, fates, -, e⟩ <;> rw [e] at hr ⊢
    · exact ⟨rfl, rfl, rfl, rfl⟩
    · cases hr
  case drain =>
    intro hc
    rw [step_drain hc] at h
    cases h
    exact ⟨rfl, rfl, arrivals_split s.wire, notYetArrived_of_prompt, rfl⟩
  case receive =>
    intro hc
    rw [step_receive hc] at h
    cases h
    exact ⟨receiveNext_pending _, receiveNext_tx _⟩

/-- A read of at least one byte keeps the link only if it is the whole reply of the request in flight and, after a
query, leaves nothing (70_reset_and_hazards R277). -/
theorem readKeepsLink_written {n : Nat} {nothingLeft : Bool} {r : Request} {sent : Nat} (hn : 0 < n) :
    readKeepsLink n nothingLeft (.written r sent) = true
      ↔ n = r.expected ∧ sent = r.expected ∧ (r.isSend = true ∨ nothingLeft = true) := by
  simp [readKeepsLink, Nat.ne_of_gt hn, and_assoc]

theorem readKeepsLink_notAwaiting {n : Nat} {nothingLeft : Bool} {exchange : Exchange} (hn : 0 < n)
    (he : exchange.awaitsReply = false) : readKeepsLink n nothingLeft exchange = false := by
  have hne : (n == 0) = false := beq_false_of_ne (Nat.ne_of_gt hn)
  cases exchange with
  | written r sent => cases he
  | none => exact hne
  | received r reply => exact hne
  | drainDue => exact hne

/-- A read that the exchange does not call for loses the link, whether it gets its bytes or fails. -/
theorem transportRead_loses {n : Nat} {s t : State} (h : transportRead n s = .next t)
    (hbreach : readKeepsLink n t.quiet s.exchange = false) : t.link = .desynchronised := by
  rcases transportRead_next h with ⟨taken, rest, wire, -, rfl⟩ | ⟨rest, wire, rfl⟩
  · exact congrArg s.link.keptIf hbreach
  · rfl

/-- Settles O48: the condition under which each primitive keeps the link fails in each case. -/
theorem breachLosesTheLink : Obligations.BreachLosesTheLink := by
  unfold Obligations.BreachLosesTheLink
  intro s t later h
  refine ⟨?wrongRead, ?wrongWrite, ?strayRead⟩
  case wrongRead =>
    intro n r sent hc he hn hwrong
    rw [step_read hc] at h
    refine transportRead_loses h (Bool.eq_false_iff.mpr fun hkept => ?_)
    rw [State.withCalls_exchange, he, readKeepsLink_written hn] at hkept
    obtain ⟨hlen, hsent, hleft⟩ := hkept
    rcases hwrong with hne | hne | ⟨hquery, hquiet⟩
    · exact hne hlen
    · exact hne hsent
    · simp [hquery, hquiet] at hleft
  case wrongWrite =>
    intro bytes hc hwrong
    rw [step_write hc] at h
    cases h
    rcases transportWrite_cases bytes (s.withCalls later) with ⟨fates, e⟩ | ⟨sent, fates, -, e⟩ <;> rw [e]
    · have hlost : ((requestOnLink? s.params bytes).isSome && !s.exchange.awaitsReply && s.quiet) = false := by
        rcases hwrong with ha | hq | hn
        · simp [ha]
        · simp [hq]
        · simp [hn]
      exact congrArg s.link.keptIf hlost
    · rfl
  case strayRead =>
    intro n hc he hn
    rw [step_read hc] at h
    exact transportRead_loses h (readKeepsLink_notAwaiting hn he)

theorem exec_ne_fault (i : Instr) (s : State) (f : Fault) : exec i s ≠ .fault f := by
  rw [exec_eq, withCatalog]
  split <;> exact nofun

theorem withCatalog_fault {s : State} {answer : Host.Outcome State Fault Refusal} {f : Fault}
    (h : withCatalog s answer = .fault f) : answer = .fault f := by
  unfold withCatalog at h
  split at h
  · exact h
  · cases h

/-- An operation that faults is a read, alone or in an exchange (70_reset_and_hazards R285). -/
theorem runCall_fault {call : Call} {s : State} {f : Fault} (h : runCall call s = .fault f) :
    (∃ n, call = .read n) ∨ (∃ sel c, call = .memRead sel c) ∨ ∃ sel c v b, call = .memWrite sel c v b := by
  cases call
  case read n => exact .inl ⟨n, rfl⟩
  case memRead sel c => exact .inr (.inl ⟨sel, c, rfl⟩)
  case memWrite sel c v b => exact .inr (.inr ⟨sel, c, v, b, rfl⟩)
  case lookup c => cases withCatalog_fault h
  case encode c sel payload => cases withCatalog_fault h
  case decode c reply => cases withCatalog_fault h
  case wireForm bytes =>
    unfold runCall at h
    simp only at h
    split at h
    · exact absurd h (exec_ne_fault _ _ _)
    · cases h
  case pct16Encode p n =>
    simp only [runCall, invokePct16Encode] at h
    split at h <;> cases h
  all_goals cases h

/-- Settles O51: a step faults only by its operation. -/
theorem onlyReadsCanHang : Obligations.OnlyReadsCanHang := by
  unfold Obligations.OnlyReadsCanHang
  intro s f h
  refine ⟨by cases f; rfl, ?_⟩
  cases hc : s.calls with
  | nil =>
    rw [step, hc] at h
    cases h
  | cons call later =>
    refine ⟨call, later, rfl, ?_⟩
    cases hp : presentable s.params call with
    | false =>
      rw [inputBoundsRefuseLongInputs.1 s call later hc hp] at h
      cases h
    | true => exact runCall_fault ((step_eq_runCall hc hp).symm.trans h)

@[simp] theorem exchangeAfterFailure_idem (exchange : Exchange) :
    exchangeAfterFailure (exchangeAfterFailure exchange) = exchangeAfterFailure exchange := by
  rcases exchangeAfterFailure_cases exchange with e | e <;> rw [e] <;> rfl

/-- What a transport error leaves of an operation that writes this request, or none (70_reset_and_hazards R285). -/
def FailedAfter (request : Option Request) (s t : State) : Prop :=
  t.link = .desynchronised ∧ ∃ sent, t.exchange = exchangeAfterFailure (exchangeAfterWrite request sent s.exchange)

theorem transportWrite_fails {bytes : Bytes} {s : State}
    (h : (transportWrite bytes s).result = some (.error .transport)) :
    FailedAfter (requestOnLink? s.params bytes) s (transportWrite bytes s) := by
  rcases transportWrite_cases bytes s with ⟨fates, e⟩ | ⟨sent, fates, -, e⟩ <;> rw [e] at h ⊢
  · cases h
  · exact ⟨rfl, _, rfl⟩

theorem transportRead_fails {n : Nat} {s t : State} (h : transportRead n s = .next t)
    (hr : t.result = some (.error .transport)) : FailedAfter none s t := by
  rcases transportRead_next h with ⟨taken, rest, wire, -, rfl⟩ | ⟨rest, wire, rfl⟩
  · cases hr
  · exact ⟨rfl, 0, rfl⟩

/-- After a write, successful or not, a failure leaves what it leaves of the request's exchange. -/
theorem transportWrite_exchange (bytes : Bytes) (s : State) :
    ∃ sent, exchangeAfterFailure (transportWrite bytes s).exchange
      = exchangeAfterFailure (exchangeAfterWrite (requestOnLink? s.params bytes) sent s.exchange) := by
  rcases transportWrite_cases bytes s with ⟨fates, e⟩ | ⟨sent, fates, -, e⟩ <;> rw [e]
  · exact ⟨_, rfl⟩
  · exact ⟨_, exchangeAfterFailure_idem _⟩

theorem decodeReply_ne_transport {k : Params} {c : Byte} {reply : Bytes} :
    decodeReply k c reply ≠ .error .transport := by
  cases hr : k.regOf? c with
  | none =>
    rw [decodeReply_unlisted hr]
    nofun
  | some r =>
    rcases decodeReply_listed_cases hr reply with ⟨-, e⟩ | ⟨-, -, ⟨-, -, e⟩ | ⟨-, e⟩⟩ <;> rw [e] <;> nofun

/-- DEC never reports a transport error (60_exceptions R245). -/
theorem decodeResult_ne_transport (k : Params) (c : Byte) (reply : Bytes) :
    decodeResult k c reply ≠ .error .transport := by
  rw [decodeResult]
  split
  · nofun
  · rename_i e he
    exact fun heq => decodeReply_ne_transport (he.trans (congrArg Except.error (Result.error.inj heq)))

/-- ENC never reports a transport error (60_exceptions R245). -/
theorem encodeRequest_ne_transport (k : Params) (c sel : Byte) (payload : Option Bytes) :
    encodeRequest k c sel payload ≠ .error .transport := by
  rcases encodeRequest_cases k c sel payload with ⟨-, e⟩ | ⟨r, -, -, ⟨-, e⟩ | ⟨p, -, -, -, ⟨-, e⟩ | ⟨-, e⟩⟩⟩ <;>
    rw [e] <;> nofun

theorem roundTrip_fails {c : Byte} {frame : Bytes} {expected : Nat} {s t : State}
    (h : roundTrip c frame expected s = .next t) (hr : t.result = some (.error .transport)) :
    FailedAfter (requestOnLink? s.params frame) s t := by
  rcases roundTrip_next h with ⟨hw, rfl⟩ | ⟨hread, -⟩ | ⟨u, reply, -, -, rfl⟩
  · exact transportWrite_fails hw
  · obtain ⟨hl, _, he⟩ := transportRead_fails hread hr
    obtain ⟨sent, hsent⟩ := transportWrite_exchange frame s
    exact ⟨hl, sent, he.trans hsent⟩
  · exact absurd (Option.some.inj hr) (decodeResult_ne_transport _ _ _)

/-- The drain after an exchange leaves its result. -/
@[simp] theorem drainAfter_result (due : Bool) (s : State) : (drainAfter due s).result = s.result := by
  unfold drainAfter
  split
  · split <;> rfl
  · rfl

/-- A failed exchange ends before its drain (log entry 9). -/
theorem drainAfter_error {s : State} {e : CoreError} (h : s.result = some (.error e)) (due : Bool) :
    drainAfter due s = s := by
  simp [drainAfter, h]

theorem memRead_fails {sel c : Byte} {s t : State} (h : memRead sel c s = .next t)
    (hr : t.result = some (.error .transport)) : FailedAfter (requestWritten? s.params (.memRead sel c)) s t := by
  rcases memRead_next h with ⟨e, he, rfl⟩ | ⟨frame, expected, he, htrip⟩
  · cases hr
    exact absurd he (encodeRequest_ne_transport _ _ _ _)
  · simpa [requestWritten?, he] using roundTrip_fails htrip hr

theorem memWrite_fails {sel c : Byte} {v : Bytes} {b : Bool} {s t : State} (h : memWrite sel c v b s = .next t)
    (hr : t.result = some (.error .transport)) :
    FailedAfter (requestWritten? s.params (.memWrite sel c v b)) s t := by
  rcases memWrite_next h with ⟨e, he, rfl⟩ | ⟨frame, expected, u, he, htrip, rfl⟩
  · cases hr
    exact absurd he (encodeRequest_ne_transport _ _ _ _)
  · rw [drainAfter_result] at hr
    rw [drainAfter_error hr]
    simpa [requestWritten?, he] using roundTrip_fails htrip hr

/-- Settles O50: each of the four leaves its failed exchange behind (FailedAfter), a query's over and a Send's due for
its drain. -/
theorem transportErrorLosesTheLink : Obligations.TransportErrorLosesTheLink := by
  unfold Obligations.TransportErrorLosesTheLink
  intro s t call later hc hkind h hr
  have hfailed : FailedAfter (requestWritten? s.params call) (s.withCalls later) t := by
    rcases hkind with ⟨bytes, rfl⟩ | ⟨n, rfl⟩ | ⟨sel, c, rfl⟩ | ⟨sel, c, v, b, rfl⟩
    · rw [step_write hc] at h
      cases h
      exact transportWrite_fails hr
    · rw [step_read hc] at h
      exact transportRead_fails h hr
    · rw [step_memRead hc] at h
      exact memRead_fails (s := s.withCalls later) (withCatalog_next h).2 hr
    · obtain ⟨_, _, hc', hp, -⟩ := step_runCall h
      cases hc.symm.trans hc'
      rw [step_memWrite hc hp] at h
      exact memWrite_fails (s := s.withCalls later) (withCatalog_next h).2 hr
  obtain ⟨hl, sent, he⟩ := hfailed
  rw [State.withCalls_exchange] at he
  refine ⟨hl, he ▸ exchangeAfterFailure_cases _, ?request, ?read⟩
  case request =>
    intro r hreq
    rw [he, hreq]
    rfl
  case read =>
    rintro n r sent' rfl hex
    rw [he, hex]
    rfl

end Sys2Proof.Machine
end

section
/-! PROOFS, 20_memory section 6: a whole exchange with a device that sends what is expected, step by step. -/

namespace Sys2Proof.Machine

/-- What the oracle holds behind the bytes a read takes stays behind what the read leaves. -/
theorem pull_append {n : Nat} {rx taken rest : Bytes} {wire later : List WireEvent}
    (h : pull n rx wire = .got taken rest later) (more : List WireEvent) :
    pull n rx (wire ++ more) = .got taken rest (later ++ more) := by
  induction wire generalizing rx with
  | nil =>
    rw [pull_nil] at h
    split at h
    · cases h
      exact pull_ready ‹_›
    · cases h
  | cons event wire ih =>
    rw [pull_cons] at h
    rw [List.cons_append, pull_cons]
    split at h
    · cases h
      rw [if_pos ‹_›, List.cons_append]
    · rw [if_neg ‹_›]
      cases event with
      | arrive bytes => exact ih h
      | pause => exact ih h
      | readFault lost => cases h

/-- A read of all that is to come, and no failure among it, takes it whole. -/
theorem pull_all {rx : Bytes} {wire : List WireEvent} {n : Nat} (hf : faultFree wire = true)
    (hn : (rx ++ arrivals wire).length = n) :
    ∃ later, pull n rx wire = .got (rx ++ arrivals wire) [] later ∧ later <:+ wire ∧ arrivals later = [] := by
  obtain ⟨rest, later, hp⟩ := pull_enough hf hn.ge
  rw [List.take_of_length_le hn.le] at hp
  obtain ⟨-, hbytes⟩ := pull_got hp
  rw [List.append_assoc, List.append_right_eq_self, List.append_eq_nil_iff] at hbytes
  obtain ⟨rfl, hlater⟩ := hbytes
  exact ⟨later, hp, pull_got_suffix hp, hlater⟩

theorem transportRead_got {n : Nat} {s : State} {taken rest : Bytes} {wire : List WireEvent}
    (h : pull n s.rx s.wire = .got taken rest wire) :
    transportRead n s = .next ((((s.withReceive rest wire).withExchange (exchangeAfterRead taken s.exchange)).withLink
      (s.link.keptIf (readKeepsLink n (rest == [] && arrivals wire == []) s.exchange))).deliver (.received taken)) := by
  simp [transportRead, h]

/-- A round trip whose write and read succeed ends with DECODE of the bytes read (20_memory R64). -/
theorem roundTrip_ok {c : Byte} {frame reply : Bytes} {expected : Nat} {s w u : State}
    (hw : transportWrite frame s = w) (hsent : w.result = some .sent) (hr : transportRead expected w = .next u)
    (hreply : u.result = some (.received reply)) :
    roundTrip c frame expected s
      = .next ((u.withExchange (exchangeAfterDecode c reply u.exchange)).deliver (decodeResult u.params c reply)) := by
  simp [roundTrip, hw, hsent, hr, decodeReceived, hreply]

/-- What a round trip leaves once the device has sent exactly the expected reply to this request, and this
acknowledgement besides. -/
structure Answered (s : State) (req : Request) (frame : Bytes) (t : State) : Prop where
  result : t.result = some (decodeResult s.params req.code (arrivals s.nextAnswer.reply))
  exchange : t.exchange = if req.isSend then .drainDue else .none
  link : t.link = .synchronised
  rx : t.rx = []
  wire : ∃ later, later <:+ s.wire ++ s.nextAnswer.reply ∧ arrivals later = [] ∧ t.wire = later ++ s.nextAnswer.ack
  tx : t.tx = s.tx ++ frame
  writeFates : t.writeFates = s.writeFates.tail
  answers : t.answers = s.answers.tail
  calls : t.calls = s.calls
  params : t.params = s.params

theorem Answered.arrivals_wire {s t : State} {req : Request} {frame : Bytes} (h : Answered s req frame t) :
    arrivals t.wire = arrivals s.nextAnswer.ack := by
  obtain ⟨later, -, hlater, hw⟩ := h.wire
  rw [hw, arrivals_append, hlater, List.nil_append]

theorem Answered.prompt_wire {s t : State} {req : Request} {frame : Bytes} (h : Answered s req frame t)
    (hp : prompt (s.wire ++ s.nextAnswer.reply ++ s.nextAnswer.ack) = true) : prompt t.wire = true := by
  obtain ⟨later, hsuffix, -, hw⟩ := h.wire
  rw [prompt_append, Bool.and_eq_true] at hp
  rw [hw, prompt_append, prompt_of_suffix hp.1 hsuffix, hp.2]
  rfl

/-- What is asked of the device (the named premise, log entry 19), taken apart. -/
theorem Answer.exact_iff {a : Answer} {r : Request} :
    a.exact r = true ↔ (arrivals a.reply).length = r.expected ∧ (r.isSend = true ∨ arrivals a.ack = []) := by
  simp [Answer.exact]

/-- A round trip from a ready state, with no failure before the reply is read and a device that sends exactly what is
expected (70_reset_and_hazards R277). -/
theorem roundTrip_answered {s : State} {req : Request} {frame : Bytes} (hready : s.ready)
    (hfates : s.writeFates.all (· == none) = true) (hfree : faultFree (s.wire ++ s.nextAnswer.reply) = true)
    (hreq : requestOnLink? s.params frame = some req) (hexact : s.nextAnswer.exact req = true) :
    ∃ t, roundTrip req.code frame req.expected s = .next t ∧ Answered s req frame t := by
  obtain ⟨hlink, hnone, hquiet⟩ := hready
  obtain ⟨hlen, hack⟩ := Answer.exact_iff.mp hexact
  obtain ⟨hrx, hwire⟩ := s.quiet_iff_parts.mp hquiet
  have hreply : s.rx ++ arrivals (s.wire ++ s.nextAnswer.reply) = arrivals s.nextAnswer.reply := by
    rw [hrx, arrivals_append, hwire, List.nil_append, List.nil_append]
  obtain ⟨later, hpull, hsuffix, hlater⟩ := pull_all hfree ((congrArg List.length hreply).trans hlen)
  rw [hreply] at hpull
  have hread := transportRead_got (s := sendAll frame s.writeFates.tail s) (pull_append hpull s.nextAnswer.ack)
  refine ⟨_, roundTrip_ok (transportWrite_ok frame s hfates) rfl hread rfl, ?_⟩
  refine ⟨by simp, ?exchange, ?link, rfl, ⟨later, hsuffix, hlater, rfl⟩, by simp, by simp, by simp, by simp,
    by simp⟩
  case exchange => simp [hreq, exchangeAfterWrite, exchangeAfterRead, hlen, exchangeAfterDecode]
  case link =>
    have hsent : (sendAll frame s.writeFates.tail s).link = .synchronised := by
      simp [hreq, hnone, Exchange.awaitsReply, hquiet, hlink]
    have hwritten : (sendAll frame s.writeFates.tail s).exchange = .written req req.expected := by
      simp [hreq, exchangeAfterWrite, hlen]
    show ((sendAll frame s.writeFates.tail s).link).keptIf _ = _
    rw [hsent, hwritten]
    rcases hack with hsend | hnothing
    · simp [readKeepsLink, hsend]
    · simp [readKeepsLink, hlater, hnothing]

/-- ENCODE without a payload gives the query frame of its register. -/
theorem memRead_query {s : State} (h : s.params.admitted = true) (sel : Byte) (r : Reg) :
    memRead sel (s.params.regCode.get r) s
      = roundTrip (s.params.regCode.get r) (encode s.params (Instr.query r sel)) (s.params.entry r).replyFrameSize
          s := by
  rw [memRead, encodeRequest_query h sel (frameMode_absent _), encode, form_query]
  rfl

/-- DECODE of a reply of the register's size, without strict mode, gives the middle slice. -/
theorem decodeResult_middle {k : Params} (h : k.admitted = true) {r : Reg} {reply : Bytes}
    (hs : k.strictReplyChecksum = false) (hl : reply.length = (k.entry r).replyFrameSize)
    (h5 : 5 ≤ (k.entry r).replyFrameSize) :
    decodeResult k (k.regCode.get r) reply = .payload ((reply.take ((k.entry r).replyFrameSize - 2)).drop 3) := by
  rw [decodeResult, decodeReply_of_length_eq (regOf?_code h r) hs hl (hl ▸ h5), hl, slice]

/-- Settles O52: MemRead is the round trip of the query frame, and a query leaves nothing behind. -/
theorem memReadExchange : Obligations.MemReadExchange := by
  unfold Obligations.MemReadExchange
  intro s sel r later h hready hfates hfree hexact hc
  have hreq : requestOnLink? s.params (encode s.params (Instr.query r sel))
      = some ⟨s.params.regCode.get r, (s.params.entry r).replyFrameSize, false⟩ := by
    rw [encode, form_query]
    exact requestOnLink?_query h r sel
  obtain ⟨hlen, hack⟩ := Answer.exact_iff.mp hexact
  obtain ⟨t, ht, ha⟩ := roundTrip_answered (s := s.withCalls later) hready hfates hfree hreq hexact
  refine ⟨t, ?step, ha.result, ?middle, ha.tx, ⟨ha.link, ha.exchange, ?quiet⟩, ha.answers, ha.calls, ha.params⟩
  case step =>
    calc step s
        _ = withCatalog (s.withCalls later) (memRead sel (s.params.regCode.get r) (s.withCalls later)) :=
          step_memRead hc
        _ = memRead sel (s.params.regCode.get r) (s.withCalls later) := if_pos h
        _ = roundTrip (s.params.regCode.get r) (encode s.params (Instr.query r sel)) (s.params.entry r).replyFrameSize
            (s.withCalls later) := memRead_query (s := s.withCalls later) h sel r
        _ = .next t := ht
  case middle =>
    intro hs h5
    exact ha.result.trans (congrArg some (decodeResult_middle h hs hlen h5))
  case quiet =>
    have hnone : arrivals s.nextAnswer.ack = [] := by simpa using hack
    rw [State.quiet_iff, State.pending, ha.rx, ha.arrivals_wire]
    exact hnone

theorem isSendFrame_withChecksum (d : Byte) (head : Bytes) :
    isSendFrame (withChecksum (d :: head)) = (messageType d == sendType) := rfl

theorem drainAfter_payload {s : State} {p : Bytes} (h : s.result = some (.payload p)) :
    drainAfter true s = discardPending s := by
  simp [drainAfter, h]

theorem drainAfter_noPayload {s : State} (h : ∀ p, s.result ≠ some (.payload p)) (due : Bool) :
    drainAfter due s = s := by
  unfold drainAfter
  split
  · exact absurd ‹_› (h _)
  · rfl

@[simp] theorem drainAfter_false (s : State) : drainAfter false s = s := by
  unfold drainAfter
  split <;> rfl

/-- The drain after an exchange, where the exchange has ended. -/
def drainOnceDone (due : Bool) (outcome : Host.Outcome State Fault Refusal) : Host.Outcome State Fault Refusal :=
  match outcome with
  | .next u => .next (drainAfter due u)
  | .fault f => .fault f
  | .refused why => .refused why

@[simp] theorem drainOnceDone_next (due : Bool) (u : State) : drainOnceDone due (.next u) = .next (drainAfter due u) :=
  rfl

@[simp] theorem drainOnceDone_false (outcome : Host.Outcome State Fault Refusal) :
    drainOnceDone false outcome = outcome := by
  cases outcome with
  | next u => rw [drainOnceDone_next, drainAfter_false]
  | fault f => rfl
  | refused why => rfl

/-- MemWrite once its frame is built. -/
theorem memWrite_ok {s : State} {sel c : Byte} {v frame : Bytes} {expected : Nat}
    (he : encodeRequest s.params c sel (some v) = .ok (frame, expected)) (b : Bool) :
    memWrite sel c v b s = drainOnceDone (isSendFrame frame || b) (roundTrip c frame expected s) := by
  rw [memWrite, he]
  rfl

/-- With a payload of the allocated size MemWrite is the round trip of the Send frame, and the drain. -/
theorem memWrite_send {s t : State} (h : s.params.admitted = true) {sel : Byte} {r : Reg} {v : Bytes}
    (hw : (s.params.entry r).writable = true) (hv : v ≠ []) (hl : v.length = (s.params.entry r).allocatedPayloadSize)
    (ht : roundTrip (s.params.regCode.get r)
      (withChecksum (delimiterBits sendType (sizeField s.params r) :: sel :: s.params.regCode.get r :: v))
      (s.params.entry r).replyFrameSize s = .next t) (b : Bool) :
    memWrite sel (s.params.regCode.get r) v b s = .next (drainAfter true t) := by
  rw [memWrite_ok (encodeRequest_send h sel hw hv hl), ht, isSendFrame_withChecksum, messageType_delimiterBits]
  rfl

/-- What comes after a pause has not arrived when a drain runs, if nothing comes before it (log entry 18). -/
theorem arrivals_notYetArrived_pause {later : List WireEvent} (h : arrivals later = []) (late : List WireEvent) :
    arrivals (notYetArrived (later ++ .pause :: late)) = arrivals late := by
  induction later with
  | nil => rfl
  | cons event later ih =>
    cases event with
    | arrive bytes => exact ih (List.append_eq_nil_iff.mp h).2
    | pause => simpa [notYetArrived, arrivals] using h
    | readFault lost => simpa [notYetArrived, arrivals] using h

/-- Settles O53: MemWrite is the round trip of the Send frame, which leaves its drain due; the drain follows if DECODE
returned a payload. -/
theorem memWriteExchange : Obligations.MemWriteExchange := by
  unfold Obligations.MemWriteExchange
  intro s sel r v b later h hready hfates hfree hexact hw hv hl hc
  obtain ⟨hlen, -⟩ := Answer.exact_iff.mp hexact
  obtain ⟨u, hu, ha⟩ := roundTrip_answered (s := s.withCalls later) hready hfates hfree
    (requestOnLink?_send h sel hw hl) hexact
  have hpresentable : presentable s.params (.memWrite sel (s.params.regCode.get r) v b) = true :=
    admitted_payload_presentable h (hl ▸ (admitted_sizes h r).2)
  have hstep : step s = .next (drainAfter true u) :=
    (step_memWrite hc hpresentable).trans ((if_pos h).trans (memWrite_send (s := s.withCalls later) h hw hv hl hu b))
  have hmiddle : s.params.strictReplyChecksum = false → 5 ≤ (s.params.entry r).replyFrameSize → u.result
      = some (.payload (((arrivals s.nextAnswer.reply).take ((s.params.entry r).replyFrameSize - 2)).drop 3)) :=
    fun hs h5 => ha.result.trans (congrArg some (decodeResult_middle h hs hlen h5))
  by_cases hp : ∃ p, u.result = some (.payload p)
  · obtain ⟨p, hp⟩ := hp
    rw [drainAfter_payload hp] at hstep
    have hidle : u.exchange.awaitsReply = false := by rw [ha.exchange]; rfl
    have hlink : (discardPending u).link = .synchronised := by
      simp [discardPending, hidle, ha.link]
    refine ⟨_, hstep, ha.result, hmiddle, ha.tx, hlink, rfl, fun _ => ⟨?exchange, ?ready, ?late⟩,
      fun hno => absurd hp (hno p), ha.answers, ha.calls, ha.params⟩
    case exchange => exact congrArg exchangeAfterDrain ha.exchange
    case ready =>
      intro hprompt
      refine ⟨hlink, congrArg exchangeAfterDrain ha.exchange, (State.quiet_iff _).mpr ?_⟩
      exact congrArg arrivals (notYetArrived_of_prompt (ha.prompt_wire hprompt))
    case late =>
      intro late hack
      obtain ⟨rest, -, hrest, hwire⟩ := ha.wire
      show arrivals (notYetArrived u.wire) = _
      rw [hwire, State.withCalls_nextAnswer, hack, arrivals_notYetArrived_pause hrest]
  · have hno : ∀ p, u.result ≠ some (.payload p) := fun p hp' => hp ⟨p, hp'⟩
    rw [drainAfter_noPayload hno] at hstep
    exact ⟨u, hstep, ha.result, hmiddle, ha.tx, ha.link, ha.rx, fun hp' => absurd hp' hp,
      fun _ => ⟨ha.exchange, ha.arrivals_wire⟩, ha.answers, ha.calls, ha.params⟩

theorem memRead_error {s : State} {sel c : Byte} {e : CoreError} (he : encodeRequest s.params c sel none = .error e) :
    memRead sel c s = .next (s.raise e) := by
  simp [memRead, he]

theorem memWrite_error {s : State} {sel c : Byte} {v : Bytes} {e : CoreError}
    (he : encodeRequest s.params c sel (some v) = .error e) (b : Bool) :
    memWrite sel c v b s = .next (s.raise e) := by
  simp [memWrite, he]

/-- For a read-only register, or with an empty value, MemWrite asks as MemRead does, and drains if so chosen. -/
theorem memWrite_query {s : State} (h : s.params.admitted = true) (sel : Byte) {r : Reg} {v : Bytes}
    (hq : (s.params.entry r).writable = false ∨ v = []) (b : Bool) :
    memWrite sel (s.params.regCode.get r) v b s = drainOnceDone b (memRead sel (s.params.regCode.get r) s) := by
  have hmode : frameMode (s.params.entry r).writable (payloadPresent (some v)) = .query := by
    rcases hq with hro | rfl
    · rw [hro, frameMode_readOnly]
    · exact frameMode_absent _
  have hframe : isSendFrame (encode s.params (Instr.query r sel)) = false := by
    rw [encode, form_query, encodeForm, isSendFrame_withChecksum, messageType_delimiterBits]
    rfl
  have hencode : encodeRequest s.params (s.params.regCode.get r) sel (some v)
      = .ok (encode s.params (Instr.query r sel), (s.params.entry r).replyFrameSize) := by
    rw [encodeRequest_query h sel hmode, encode, form_query]
    rfl
  rw [memWrite_ok hencode, memRead_query h, hframe, Bool.false_or]

/-- Settles O54: an ENCODE error comes before the write, and the frame of a write that the gate closes is a query. -/
theorem exchangesThatWriteNothingOrAsk : Obligations.ExchangesThatWriteNothingOrAsk := by
  unfold Obligations.ExchangesThatWriteNothingOrAsk
  intro s sel c v b later h
  have hcat (answer : Host.Outcome State Fault Refusal) : withCatalog (s.withCalls later) answer = answer := if_pos h
  refine ⟨?readError, ?writeError, ?query⟩
  case readError =>
    intro e hc he
    rw [step_memRead hc, hcat]
    exact memRead_error (s := s.withCalls later) he
  case writeError =>
    intro e hc hp he
    rw [step_memWrite hc hp, hcat]
    exact memWrite_error (s := s.withCalls later) he b
  case query =>
    intro r hr hq hc hp
    have hread : step (s.withCalls (.memRead sel c :: later)) = memRead sel c (s.withCalls later) := by
      rw [step_memRead rfl]
      exact hcat _
    have hwrite := memWrite_query (s := s.withCalls later) h sel hq b
    rw [State.withCalls_params, regOf?_some hr] at hwrite
    rw [step_memWrite hc hp, hcat, hwrite, hread]
    refine ⟨?plain, ?drained⟩
    case plain =>
      rintro rfl
      exact drainOnceDone_false _
    case drained =>
      rintro rfl u hu
      rw [hu]
      exact ⟨fun ⟨p, hp⟩ => congrArg _ (drainAfter_payload hp), fun hno => congrArg _ (drainAfter_noPayload hno _)⟩

end Sys2Proof.Machine
end

section
/-! PROOFS, 70_reset_and_hazards section 5: a dutiful caller and a device that keeps the contract stay in step, stage by
stage of an exchange. -/

namespace Sys2Proof.Machine

/-- Neither a fault nor a state out of step. -/
def StaysInStep (outcome : Host.Outcome State Fault Refusal) : Prop :=
  (∀ f, outcome ≠ .fault f) ∧ ∀ t, outcome = .next t → t.inStep

theorem staysInStep_next {t : State} (h : t.inStep) : StaysInStep (.next t) :=
  ⟨fun _ hf => (by cases hf), fun _ ht => Host.Outcome.next.inj ht ▸ h⟩

theorem staysInStep_refused (why : Refusal) : StaysInStep (.refused why) :=
  ⟨fun _ hf => (by cases hf), fun _ ht => by cases ht⟩

theorem staysInStep_withCatalog {s : State} {answer : Host.Outcome State Fault Refusal} (h : StaysInStep answer) :
    StaysInStep (withCatalog s answer) := by
  unfold withCatalog
  split
  · exact h
  · exact staysInStep_refused _

/-- With no exchange under way, in step means ready, over a transport that does not fail. -/
theorem inStep_none {s : State} (he : s.exchange = .none) :
    s.inStep ↔ s.ready ∧ s.writeFates.all (· == none) = true ∧ prompt s.wire = true := by
  simp only [State.inStep, State.ready, he, true_and]
  tauto

/-- With a reply awaited, in step means that it is on its way in full, and after a query nothing else. -/
theorem inStep_written {s : State} {r : Request} {sent : Nat} (he : s.exchange = .written r sent) :
    s.inStep ↔ s.link = .synchronised ∧ s.writeFates.all (· == none) = true ∧ prompt s.wire = true
      ∧ sent = r.expected ∧ r.expected ≤ s.pending.length ∧ (r.isSend = false → s.pending.length = r.expected) := by
  simp only [State.inStep, State.pending, he]

/-- Once the reply is read, in step means that after a query nothing is left. -/
theorem inStep_received {s : State} {r : Request} {reply : Bytes} (he : s.exchange = .received r reply) :
    s.inStep ↔ s.link = .synchronised ∧ s.writeFates.all (· == none) = true ∧ prompt s.wire = true
      ∧ (r.isSend = false → s.quiet = true) := by
  simp only [State.inStep, he]

theorem inStep_drainDue {s : State} (he : s.exchange = .drainDue) :
    s.inStep ↔ s.link = .synchronised ∧ s.writeFates.all (· == none) = true ∧ prompt s.wire = true := by
  simp only [State.inStep, he, and_true]

/-- Being in step does not depend on the outputs. -/
theorem inStep_deliver {s : State} (h : s.inStep) (r : Result) : (s.deliver r).inStep := h

theorem exec_staysInStep {s : State} (h : s.inStep) (i : Instr) : StaysInStep (exec i s) := by
  rw [exec_eq]
  exact staysInStep_withCatalog (staysInStep_next (inStep_deliver h _))

theorem all_tail {fates : List (Option Nat)} (h : fates.all (· == none) = true) :
    fates.tail.all (· == none) = true := by
  cases fates with
  | nil => rfl
  | cons fate fates =>
    rw [List.all_cons, Bool.and_eq_true] at h
    exact h.2

/-- A whole request, written with no exchange under way, to a device that sends exactly what it calls for. -/
theorem transportWrite_inStep {s : State} (h : s.inStep) (he : s.exchange = .none) {bytes : Bytes} {req : Request}
    (hreq : requestOnLink? s.params bytes = some req) (hexact : s.nextAnswer.exact req = true)
    (hprompt : prompt (s.nextAnswer.reply ++ s.nextAnswer.ack) = true) : (transportWrite bytes s).inStep := by
  obtain ⟨⟨hlink, -, hquiet⟩, hfates, hwire⟩ := (inStep_none he).mp h
  obtain ⟨hlen, hack⟩ := Answer.exact_iff.mp hexact
  obtain ⟨hrx, hnothing⟩ := s.quiet_iff_parts.mp hquiet
  have hexchange : (sendAll bytes s.writeFates.tail s).exchange = .written req req.expected := by
    simp [hreq, exchangeAfterWrite, hlen]
  have hpending : (sendAll bytes s.writeFates.tail s).pending
      = arrivals s.nextAnswer.reply ++ arrivals s.nextAnswer.ack := by
    simp [State.pending, hrx, hnothing]
  rw [transportWrite_ok bytes s hfates, inStep_written hexchange, hpending, List.length_append, hlen]
  refine ⟨?link, all_tail hfates, ?prompt, rfl, Nat.le_add_right _ _, ?query⟩
  case link => simp [hreq, he, Exchange.awaitsReply, hquiet, hlink]
  case prompt =>
    rw [sendAll_wire, List.append_assoc, prompt_append, hwire, hprompt]
    rfl
  case query =>
    intro hquery
    have hnoAck : arrivals s.nextAnswer.ack = [] := by simpa [hquery] using hack
    rw [hnoAck, List.length_nil, Nat.add_zero]

/-- The read of the expected number of bytes gets them, and after a query leaves nothing. -/
theorem transportRead_inStep {s : State} (h : s.inStep) {r : Request} {sent : Nat} (he : s.exchange = .written r sent) :
    StaysInStep (transportRead r.expected s) := by
  obtain ⟨hlink, hfates, hwire, rfl, henough, hquery⟩ := (inStep_written he).mp h
  obtain ⟨rest, later, hpull⟩ := pull_enough (faultFree_of_prompt hwire) henough
  obtain ⟨htaken, hbytes⟩ := pull_got hpull
  have hleft : r.isSend = false → rest = [] ∧ arrivals later = [] := by
    intro hq
    have hlen := congrArg List.length hbytes
    have hall : (s.rx ++ arrivals s.wire).length = r.expected := hquery hq
    rw [hall, List.length_append, List.length_append, htaken] at hlen
    exact ⟨List.eq_nil_of_length_eq_zero (by omega), List.eq_nil_of_length_eq_zero (by omega)⟩
  rw [transportRead_got hpull]
  generalize (s.rx ++ arrivals s.wire).take r.expected = taken at htaken
  refine staysInStep_next ((inStep_received (r := r) (reply := taken) (by simp [he, exchangeAfterRead, htaken])).mpr
    ⟨?link, hfates, prompt_of_suffix hwire (pull_got_suffix hpull), fun hq => ?quiet⟩)
  case link =>
    cases hsend : r.isSend with
    | true => simp [he, hlink, readKeepsLink, hsend]
    | false => simp [he, hlink, readKeepsLink, hleft hsend]
  case quiet => simp [State.quiet, hleft hq]

/-- DECODE of the bytes of the exchange, or of any others at another time, stays in step. -/
theorem noted_decode_inStep {s : State} (h : s.inStep) {c : Byte} {reply : Bytes}
    (hduty : respectsDuties s (.decode c reply) = true) : (s.noted (.decode c reply)).inStep := by
  have hsame (he : exchangeAfterDecode c reply s.exchange = s.exchange) : (s.noted (.decode c reply)).inStep := by
    rw [noted_decode, he]
    exact h
  cases he : s.exchange with
  | none => exact hsame (by rw [he]; rfl)
  | written r sent => exact hsame (by rw [he]; rfl)
  | drainDue => exact hsame (by rw [he]; rfl)
  | received r received =>
    obtain ⟨hlink, hfates, hwire, hquery⟩ := (inStep_received he).mp h
    have hown : c = r.code ∧ reply = received := by simpa [respectsDuties, he] using hduty
    rw [noted_decode, he, exchangeAfterDecode, if_pos hown]
    cases hsend : r.isSend with
    | true => exact (inStep_drainDue rfl).mpr ⟨hlink, hfates, hwire⟩
    | false => exact (inStep_none rfl).mpr ⟨⟨hlink, rfl, hquery hsend⟩, hfates, hwire⟩

/-- A drain with no reply awaited leaves nothing, since everything has arrived in time. -/
theorem discardPending_inStep {s : State} (h : s.inStep) (he : s.exchange.awaitsReply = false) :
    (discardPending s).inStep := by
  obtain ⟨hlink, hfates, hwire, -⟩ := h
  have hempty := notYetArrived_of_prompt hwire
  have hlink' : (discardPending s).link = .synchronised := by simp [discardPending, he, hlink]
  have hwire' : prompt (discardPending s).wire = true := congrArg prompt hempty
  have hquiet : (discardPending s).quiet = true := (State.quiet_iff _).mpr (congrArg arrivals hempty)
  have hexchange : (discardPending s).exchange = exchangeAfterDrain s.exchange := rfl
  cases hex : s.exchange with
  | written r sent =>
    rw [hex] at he
    cases he
  | none =>
    rw [hex] at hexchange
    exact (inStep_none hexchange).mpr ⟨⟨hlink', hexchange, hquiet⟩, hfates, hwire'⟩
  | drainDue =>
    rw [hex] at hexchange
    exact (inStep_none hexchange).mpr ⟨⟨hlink', hexchange, hquiet⟩, hfates, hwire'⟩
  | received r reply =>
    rw [hex] at hexchange
    exact (inStep_received hexchange).mpr ⟨hlink', hfates, hwire', fun _ => hquiet⟩

/-- What a round trip leaves is in step: a query's ready state, or a Send's drain due. -/
theorem Answered.inStep {s t : State} {req : Request} {frame : Bytes} (h : Answered s req frame t)
    (hfates : s.writeFates.all (· == none) = true)
    (hprompt : prompt (s.wire ++ s.nextAnswer.reply ++ s.nextAnswer.ack) = true)
    (hexact : s.nextAnswer.exact req = true) : t.inStep := by
  have hfates' : t.writeFates.all (· == none) = true := by rw [h.writeFates]; exact all_tail hfates
  have hex := h.exchange
  cases hsend : req.isSend with
  | true =>
    rw [hsend, if_pos rfl] at hex
    exact (inStep_drainDue hex).mpr ⟨h.link, hfates', h.prompt_wire hprompt⟩
  | false =>
    rw [hsend, if_neg Bool.false_ne_true] at hex
    have hnoAck : arrivals s.nextAnswer.ack = [] := by simpa [hsend] using (Answer.exact_iff.mp hexact).2
    have hquiet : t.quiet = true := by
      rw [State.quiet_iff, State.pending, h.rx, h.arrivals_wire, hnoAck]
      rfl
    exact (inStep_none hex).mpr ⟨⟨h.link, hex, hquiet⟩, hfates', h.prompt_wire hprompt⟩

/-- A round trip of an ENCODE frame, begun with no exchange under way, ends in step with no reply awaited. -/
theorem roundTrip_inStep {s : State} (h : s.inStep) (he : s.exchange = .none) {frame : Bytes} {req : Request}
    (hreq : requestOnLink? s.params frame = some req) (hexact : s.nextAnswer.exact req = true)
    (hprompt : prompt (s.nextAnswer.reply ++ s.nextAnswer.ack) = true) :
    ∃ t, roundTrip req.code frame req.expected s = .next t ∧ t.inStep ∧ t.exchange.awaitsReply = false := by
  obtain ⟨hready, hfates, hwire⟩ := (inStep_none he).mp h
  have hall : prompt (s.wire ++ s.nextAnswer.reply ++ s.nextAnswer.ack) = true := by
    rw [List.append_assoc, prompt_append, hwire, hprompt]
    rfl
  have hfree : faultFree (s.wire ++ s.nextAnswer.reply) = true := by
    rw [prompt_append, Bool.and_eq_true] at hall
    exact faultFree_of_prompt hall.1
  obtain ⟨t, ht, ha⟩ := roundTrip_answered hready hfates hfree hreq hexact
  refine ⟨t, ht, ha.inStep hfates hall hexact, ?_⟩
  rw [ha.exchange]
  split <;> rfl

theorem drainAfter_inStep {s : State} (h : s.inStep) (he : s.exchange.awaitsReply = false) (due : Bool) :
    (drainAfter due s).inStep := by
  unfold drainAfter
  split
  · split
    · exact discardPending_inStep h he
    · exact h
  · exact h

/-- The contract of the device for the request an invocation writes (log entry 19), taken apart. -/
theorem deviceKeepsContract_written {s : State} {call : Call} {req : Request}
    (hreq : requestWritten? s.params call = some req) (h : deviceKeepsContract s call = true) :
    s.nextAnswer.exact req = true ∧ prompt (s.nextAnswer.reply ++ s.nextAnswer.ack) = true := by
  simpa only [deviceKeepsContract, hreq, Bool.and_eq_true] using h

theorem memRead_staysInStep {s : State} {sel c : Byte} (hk : s.params.admitted = true) (h : s.inStep)
    (he : s.exchange = .none) (hdevice : deviceKeepsContract s (.memRead sel c) = true) :
    StaysInStep (memRead sel c s) := by
  cases hencode : encodeRequest s.params c sel none with
  | error e =>
    rw [memRead_error hencode]
    exact staysInStep_next (inStep_deliver h _)
  | ok p =>
    obtain ⟨isSend, hreq⟩ := requestOnLink?_encoded hk hencode
    have hwritten : requestWritten? s.params (.memRead sel c) = some ⟨c, p.2, isSend⟩ := by
      simp only [requestWritten?, hencode, hreq]
    obtain ⟨hexact, hprompt⟩ := deviceKeepsContract_written hwritten hdevice
    obtain ⟨t, ht, hstep, -⟩ := roundTrip_inStep h he hreq hexact hprompt
    have hread : memRead sel c s = roundTrip c p.1 p.2 s := by simp only [memRead, hencode]
    rw [hread, ht]
    exact staysInStep_next hstep

theorem memWrite_staysInStep {s : State} {sel c : Byte} {v : Bytes} {b : Bool} (hk : s.params.admitted = true)
    (h : s.inStep) (he : s.exchange = .none) (hdevice : deviceKeepsContract s (.memWrite sel c v b) = true) :
    StaysInStep (memWrite sel c v b s) := by
  cases hencode : encodeRequest s.params c sel (some v) with
  | error e =>
    rw [memWrite_error hencode]
    exact staysInStep_next (inStep_deliver h _)
  | ok p =>
    obtain ⟨isSend, hreq⟩ := requestOnLink?_encoded hk hencode
    have hwritten : requestWritten? s.params (.memWrite sel c v b) = some ⟨c, p.2, isSend⟩ := by
      simp only [requestWritten?, hencode, hreq]
    obtain ⟨hexact, hprompt⟩ := deviceKeepsContract_written hwritten hdevice
    obtain ⟨t, ht, hstep, hidle⟩ := roundTrip_inStep h he hreq hexact hprompt
    rw [memWrite_ok hencode, ht]
    exact staysInStep_next (drainAfter_inStep hstep hidle _)

/-- Time passing moves bytes and drops no more than a delay. -/
theorem receiveNext_inStep {s : State} (h : s.inStep) : (receiveNext s).inStep := by
  obtain ⟨hlink, hfates, hwire, hexchange⟩ := h
  have hpending := receiveNext_pending s
  have hquiet : (receiveNext s).quiet = s.quiet := by
    rw [Bool.eq_iff_iff, State.quiet_iff, State.quiet_iff, hpending]
  have hkept : (receiveNext s).link = s.link ∧ (receiveNext s).writeFates = s.writeFates
      ∧ (receiveNext s).exchange = s.exchange ∧ (receiveNext s).wire <:+ s.wire := by
    unfold receiveNext
    split <;> simp_all
  obtain ⟨hl, hf, he, hsuffix⟩ := hkept
  rw [← hl] at hlink
  rw [← hf] at hfates
  have hwire' := prompt_of_suffix hwire hsuffix
  cases hex : s.exchange with
  | none =>
    rw [hex] at he hexchange
    exact (inStep_none he).mpr ⟨⟨hlink, he, hquiet.trans hexchange⟩, hfates, hwire'⟩
  | written r sent =>
    rw [hex] at he hexchange
    exact (inStep_written he).mpr ⟨hlink, hfates, hwire', by rw [hpending]; exact hexchange⟩
  | received r reply =>
    rw [hex] at he hexchange
    exact (inStep_received he).mpr ⟨hlink, hfates, hwire', fun hq => hquiet.trans (hexchange hq)⟩
  | drainDue =>
    rw [hex] at he
    exact (inStep_drainDue he).mpr ⟨hlink, hfates, hwire'⟩

/-- Every invocation of a dutiful caller stays in step. -/
theorem runCall_staysInStep {s : State} {call : Call} (hk : s.params.admitted = true) (h : s.inStep)
    (hduty : respectsDuties s call = true) (hdevice : deviceKeepsContract s call = true) :
    StaysInStep (runCall call (s.noted call)) := by
  cases call
  case lookup c => exact staysInStep_withCatalog (staysInStep_next (inStep_deliver h _))
  case encode c sel payload => exact staysInStep_withCatalog (staysInStep_next (inStep_deliver h _))
  case decode c reply =>
    exact staysInStep_withCatalog (staysInStep_next (inStep_deliver (noted_decode_inStep h hduty) _))
  case wireForm bytes =>
    show StaysInStep (runCall (.wireForm bytes) s)
    unfold runCall
    simp only
    split
    · exact exec_staysInStep h _
    · exact staysInStep_refused _
  case write bytes =>
    rw [respectsDuties, Bool.and_eq_true] at hduty
    obtain ⟨he, hsome⟩ := hduty
    obtain ⟨req, hreq⟩ := Option.isSome_iff_exists.mp hsome
    obtain ⟨hexact, hprompt⟩ := deviceKeepsContract_written (call := .write bytes) hreq hdevice
    exact staysInStep_next (transportWrite_inStep h (eq_of_beq he) hreq hexact hprompt)
  case read n =>
    cases he : s.exchange with
    | written r sent =>
      have hn : n = r.expected := by simpa [respectsDuties, he] using hduty
      rw [hn]
      exact transportRead_inStep h he
    | none => simp [respectsDuties, he] at hduty
    | received r reply => simp [respectsDuties, he] at hduty
    | drainDue => simp [respectsDuties, he] at hduty
  case drain =>
    have hidle : s.exchange.awaitsReply = false := by simpa [respectsDuties] using hduty
    exact staysInStep_next (inStep_deliver (discardPending_inStep h hidle) _)
  case memRead sel c => exact staysInStep_withCatalog (memRead_staysInStep hk h (eq_of_beq hduty) hdevice)
  case memWrite sel c v b => exact staysInStep_withCatalog (memWrite_staysInStep hk h (eq_of_beq hduty) hdevice)
  case pct16Encode p n =>
    show StaysInStep (invokePct16Encode p n s)
    unfold invokePct16Encode
    split
    · exact staysInStep_next (inStep_deliver h _)
    · exact staysInStep_refused _
  case u16Bytes raw => exact staysInStep_next (inStep_deliver h _)
  case pct16Decode hi lo n => exact staysInStep_next (inStep_deliver h _)
  case float32 b3 b2 b1 b0 => exact staysInStep_next (inStep_deliver h _)
  case receive => exact staysInStep_next (receiveNext_inStep h)
  case reset =>
    have he : s.exchange = .none := eq_of_beq hduty
    obtain ⟨⟨hlink, -, hquiet⟩, hfates, hwire⟩ := (inStep_none he).mp h
    have hlink' : (resetBlock s).link = .synchronised := by simp [resetBlock, he, hlink]
    exact staysInStep_next ((inStep_none (s := resetBlock s) rfl).mpr ⟨⟨hlink', rfl, hquiet⟩, hfates, hwire⟩)

/-- Settles O47: an invocation that can be presented runs as its operation (runCall_staysInStep); any other is
refused. -/
theorem dutifulCallerKeepsTheLink : Obligations.DutifulCallerKeepsTheLink := by
  unfold Obligations.DutifulCallerKeepsTheLink
  intro s call later hk h hc hduty hdevice
  have hstays : StaysInStep (step s) := by
    cases hp : presentable s.params call with
    | false =>
      rw [inputBoundsRefuseLongInputs.1 s call later hc hp]
      exact staysInStep_refused _
    | true =>
      rw [step_eq_runCall hc hp]
      exact runCall_staysInStep (s := s.withCalls later) hk h hduty hdevice
  exact ⟨hstays.1, fun t ht => ⟨(hstays.2 t ht).1, hstays.2 t ht⟩⟩

end Sys2Proof.Machine
end

section
/-! PROOFS, 43_value_helpers: the percentage encoding rounds a quotient upward, exact or with the software's error; its
decoding; the bytes of a float. -/

namespace Sys2Proof.Machine

/-- How far the rounded quotient is off: not at all in exact arithmetic, by the software's error otherwise. -/
def roundingError (numerics : Numerics) (physical nominal : Rat) : Rat :=
  match numerics with
  | .exact => 0
  | .softwareFloat => quotientError physical nominal

@[simp] theorem roundingError_exact (p n : Rat) : roundingError .exact p n = 0 := rfl

/-- The rounding error is at most one seventh, either way (log entry 16). -/
theorem roundingError_bounds (numerics : Numerics) (p n : Rat) :
    -(1 / 7) ≤ roundingError numerics p n ∧ roundingError numerics p n ≤ 1 / 7 := by
  cases numerics with
  | exact => norm_num
  | softwareFloat =>
    have hbound : (-quotientErrorBound : Rat) ≤ quotientErrorBound := by norm_num [quotientErrorBound]
    exact ⟨le_max_left _ _, max_le hbound (min_le_left _ _)⟩

/-- The raw value is the quotient, with its error, rounded upward (43_value_helpers R220). -/
theorem percentRawIn_eq (numerics : Numerics) (p n : Rat) :
    percentRawIn numerics p n = ⌈25600 * p / n + roundingError numerics p n⌉ := by
  cases numerics with
  | exact =>
    rw [roundingError_exact, add_zero]
    rfl
  | softwareFloat => rfl

theorem percentRawIn_exact (p n : Rat) : percentRawIn .exact p n = ⌈25600 * p / n⌉ := rfl

/-- No raw value is negative on the domain: an error of one seventh stays above minus one. -/
theorem percentRawIn_nonneg (numerics : Numerics) {p n : Rat} (hn : 0 < n) (hp : 0 ≤ p) :
    0 ≤ percentRawIn numerics p n := by
  have hq : 0 ≤ 25600 * p / n := by positivity
  have he := (roundingError_bounds numerics p n).1
  have habove : ((-1 : Int) : Rat) < 25600 * p / n + roundingError numerics p n := by
    push_cast
    linarith
  rw [percentRawIn_eq]
  exact Int.lt_ceil.mpr habove

/-- On its domain PCT16_ENC gives the raw value, whole (43_value_helpers R223: it never truncates). -/
theorem pct16Encode_some {numerics : Numerics} {p n : Rat} {raw : BitVec 16}
    (h : pct16Encode numerics p n = some raw) :
    0 < n ∧ 0 ≤ p ∧ (raw.toNat : Int) = percentRawIn numerics p n := by
  unfold pct16Encode at h
  split at h
  · rename_i hdom
    obtain ⟨hn, hp, hmax⟩ := hdom
    have hnonneg := percentRawIn_nonneg numerics hn hp
    refine ⟨hn, hp, ?_⟩
    rw [← Option.some.inj h, BitVec.toNat_ofInt]
    omega
  · cases h

theorem pct16Encode_of_le {numerics : Numerics} {p n : Rat} (hn : 0 < n) (hp : 0 ≤ p)
    (hmax : percentRawIn numerics p n ≤ 65535) :
    pct16Encode numerics p n = some (BitVec.ofInt 16 (percentRawIn numerics p n)) :=
  if_pos ⟨hn, hp, hmax⟩

/-- In exact arithmetic the raw value is the ceiling of the quotient. -/
theorem pct16Encode_exact {p n : Rat} {raw : BitVec 16} (h : pct16Encode .exact p n = some raw) :
    (raw.toNat : Int) = ⌈25600 * p / n⌉ :=
  (pct16Encode_some h).2.2

/-- Where the quotient lies well inside a unit interval, its error does not matter. -/
theorem percentRawIn_of_between (numerics : Numerics) {p n : Rat} {m : Int} (hlow : (m : Rat) + 1 / 7 < 25600 * p / n)
    (hhigh : 25600 * p / n ≤ (m : Rat) + 6 / 7) : percentRawIn numerics p n = m + 1 := by
  obtain ⟨he, he'⟩ := roundingError_bounds numerics p n
  rw [percentRawIn_eq, Int.ceil_eq_iff]
  push_cast
  exact ⟨by linarith, by linarith⟩

/-- An error below one moves the ceiling by at most one. -/
theorem percentRawIn_near (numerics : Numerics) (p n : Rat) :
    percentRawIn numerics p n ≤ percentRaw p n + 1 ∧ percentRaw p n ≤ percentRawIn numerics p n + 1 := by
  obtain ⟨he, he'⟩ := roundingError_bounds numerics p n
  have hexact : percentRaw p n = ⌈25600 * p / n⌉ := rfl
  rw [percentRawIn_eq, hexact, ← Int.ceil_add_one, ← Int.ceil_add_one]
  exact ⟨Int.ceil_mono (by linarith), Int.ceil_mono (by linarith)⟩

theorem step_pct16Encode {s : State} {p n : Rat} {later : List Call} (hc : s.calls = .pct16Encode p n :: later) :
    step s = invokePct16Encode p n (s.withCalls later) :=
  step_eq_runCall hc rfl

/-- Settles O56: a raw value is the rounded quotient; the source's example lies one seventh below an integer. -/
theorem percentEncodeIsCeiling : Obligations.PercentEncodeIsCeiling := by
  unfold Obligations.PercentEncodeIsCeiling
  refine ⟨?rawValue, ?bytes, ?sourceExample, rfl⟩
  case rawValue =>
    intro s later p n raw hc hstep
    rw [step_pct16Encode hc] at hstep
    obtain ⟨raw', hsome, heq⟩ := invokePct16Encode_next hstep
    obtain rfl : raw = raw' := by simpa using congrArg State.result heq
    have hraw : (raw.toNat : Int) = percentRawIn s.params.numerics p n := (pct16Encode_some hsome).2.2
    refine ⟨fun hexact => ?_, fun _ => ?_⟩
    · rw [hexact, percentRawIn_exact] at hraw
      have hcast : (raw.toNat : Rat) = (⌈25600 * p / n⌉ : Int) := by rw [← hraw, Int.cast_natCast]
      refine ⟨hcast ▸ Int.le_ceil _, fun m hm => ?_⟩
      have hceil : ⌈25600 * p / n⌉ ≤ (m : Int) := Int.ceil_le.mpr (by rwa [Int.cast_natCast])
      omega
    · rw [hraw]
      obtain ⟨hle, hge⟩ := percentRawIn_near s.params.numerics p n
      exact ⟨hle, hge, fun m hlow hhigh => percentRawIn_of_between _ hlow hhigh⟩
  case bytes => exact fun s later raw hc => ⟨_, _, step_eq_runCall hc rfl, rfl, rfl⟩
  case sourceExample =>
    intro numerics
    have hraw : percentRawIn numerics (51 / 2) 42 = 15543 :=
      percentRawIn_of_between numerics (m := 15542) (by norm_num) (by norm_num)
    rw [pct16Encode_of_le (by norm_num) (by norm_num) (by rw [hraw]; norm_num), hraw]
    rfl

/-- Settles O57: the ceiling is at most 65535 exactly if the quotient, with its error, is. -/
theorem percentEncodeDomain : Obligations.PercentEncodeDomain := by
  unfold Obligations.PercentEncodeDomain
  intro s later p n hc
  rw [step_pct16Encode hc, invokePct16Encode, State.withCalls_params]
  obtain ⟨he, he'⟩ := roundingError_bounds s.params.numerics p n
  refine ⟨?answers, ?refused⟩
  case answers =>
    intro hn hp hmax
    have hraw : percentRawIn s.params.numerics p n ≤ 65535 := by
      rw [percentRawIn_eq, Int.ceil_le]
      push_cast
      rcases hmax with hmax | ⟨hexact, hmax⟩
      · linarith
      · rw [hexact, roundingError_exact]
        linarith
    rw [pct16Encode_of_le hn hp hraw]
    exact ⟨_, rfl⟩
  case refused =>
    intro hout
    have hnone : pct16Encode s.params.numerics p n = none := by
      refine if_neg fun ⟨hn, hp, hmax⟩ => ?_
      rw [percentRawIn_eq, Int.ceil_le] at hmax
      push_cast at hmax
      rcases hout with hn' | hp' | hbig | ⟨hexact, hbig⟩
      · linarith
      · linarith
      · linarith
      · rw [hexact, roundingError_exact] at hmax
        linarith
    rw [hnone]

/-- Two bytes as a number, high byte first (00_scope R14). -/
theorem unbe16_pair (h l : Byte) : unbe16 [h, l] = 256 * h.toNat + l.toNat := by
  simp [unbe16]

/-- Reading back the two bytes of a raw value (43_value_helpers R222). -/
theorem pct16Decode_u16Bytes {v : BitVec 16} {h l : Byte} (hb : u16Bytes v = [h, l]) (n : Rat) :
    pct16Decode .exact h l n = (v.toNat : Rat) * n / 25600 := by
  rw [pct16Decode, ← hb, u16Bytes, unbe16_be16]
  rfl

/-- Settles O58: the quotient is p times a positive number, so the ceiling keeps its order, and reading back divides
by that number again. -/
theorem percentLaws : Obligations.PercentLaws := by
  unfold Obligations.PercentLaws
  intro n hn
  refine ⟨?zero, ?full, ?monotone, ?readBack⟩
  case zero =>
    have hraw : percentRawIn .exact 0 n = 0 := by rw [percentRawIn_exact, mul_zero, zero_div, Int.ceil_zero]
    rw [pct16Encode_of_le hn le_rfl (by rw [hraw]; norm_num), hraw]
    rfl
  case full =>
    have hraw : percentRawIn .exact n n = 25600 := by
      rw [percentRawIn_exact, mul_div_assoc, div_self hn.ne', mul_one]
      exact Int.ceil_intCast 25600
    rw [pct16Encode_of_le hn hn.le (by rw [hraw]; norm_num), hraw]
    rfl
  case monotone =>
    intro p q v w hpq hv hw
    have hle : ⌈25600 * p / n⌉ ≤ ⌈25600 * q / n⌉ := Int.ceil_mono (by gcongr)
    rw [← pct16Encode_exact hv, ← pct16Encode_exact hw] at hle
    exact Int.ofNat_le.mp hle
  case readBack =>
    intro p v h l hv hb
    have hceil := pct16Encode_exact hv
    have hcast : (v.toNat : Rat) = (⌈25600 * p / n⌉ : Int) := by rw [← hceil, Int.cast_natCast]
    have hlow : 25600 * p / n ≤ (v.toNat : Rat) := hcast ▸ Int.le_ceil _
    have hhigh : (v.toNat : Rat) < 25600 * p / n + 1 := hcast ▸ Int.ceil_lt_add_one _
    rw [pct16Decode_u16Bytes hb]
    refine ⟨?below, ?excess, ?exactly⟩
    case below =>
      rw [div_le_iff₀ hn] at hlow
      linarith
    case excess =>
      rw [← sub_lt_iff_lt_add, lt_div_iff₀ hn] at hhigh
      linarith
    case exactly =>
      constructor
      · intro heq
        refine ⟨v.toNat, ?_⟩
        rw [div_eq_iff hn.ne', Int.cast_natCast]
        linarith
      · rintro ⟨m, hm⟩
        rw [hm, Int.ceil_intCast, ← hm] at hcast
        rw [hcast]
        field_simp

/-- Settles O59: the two bytes stand for a number, and the rest is R222's formula. -/
theorem percentDecodeFormula : Obligations.PercentDecodeFormula := by
  unfold Obligations.PercentDecodeFormula
  refine ⟨?formula, ?sourceExample⟩
  case formula =>
    intro s later h l n hc
    refine ⟨_, step_eq_runCall hc rfl, fun hexact => ?_⟩
    show pct16Decode s.params.numerics h l n = _
    rw [hexact, pct16Decode, unbe16_pair]
    rfl
  case sourceExample =>
    have hraw : unbe16 [0x3C, 0xB7] = 15543 := rfl
    rw [pct16Decode, hraw]
    norm_num [pctScale]

/-- Settles O60: the word is the concatenation of its four bytes. -/
theorem floatBytesBigEndian : Obligations.FloatBytesBigEndian := by
  unfold Obligations.FloatBytesBigEndian
  intro s later b3 b2 b1 b0 hc
  refine ⟨_, step_eq_runCall hc rfl, ?number, ?top, ?bottom⟩
  case number =>
    simp only [float32Bits, append_toNat_eq_add]
    omega
  case top =>
    rw [float32Bits, BitVec.getLsbD_append, BitVec.getLsbD_append, BitVec.getLsbD_append]
    rfl
  case bottom =>
    apply BitVec.eq_of_toNat_eq
    simp only [float32Bits, BitVec.extractLsb'_toNat, append_toNat_eq_add]
    omega

end Sys2Proof.Machine
end
